-- ==== Sys2Proof/Word.lean ====
section
/-! DEFINITION. The byte, the unit of every frame of the link (R161, R170). -/

namespace Sys2Proof

/-- One byte of a frame. -/
abbrev Byte := BitVec 8

end Sys2Proof
end

