-- ==== Sys2Proof/Config.lean ====
section
/-! DEFINITION. What the part fixes (capacities, ranges) and the one free value. -/

namespace Sys2Proof.Config

/-- Places of a command buffer and of a response buffer (R164). -/
abbrev portPlaces : Nat := 4
/-- Longest payload of a frame (R161). -/
abbrev maxPayload : Nat := 1016
/-- Lot records (R11). -/
abbrev maxLots : Nat := 32
/-- History entries of a lane (R120). -/
abbrev maxHistory : Nat := 32
/-- Jobs in the work queue, the running one included (R96). -/
abbrev maxJobs : Nat := 8
/-- Outcomes in the finished list (R101). -/
abbrev maxFinished : Nat := 8
/-- Alert records (R146). -/
abbrev maxAlerts : Nat := 64
/-- Largest raise count and largest owed pulse count (R146, R157). -/
abbrev maxCount : Nat := 255
/-- Largest id, serial, day and code (00_scope, Identifiers). -/
abbrev maxWord : Nat := 65535
/-- Largest rerun count (R48). -/
abbrev maxRerun : Nat := 15
/-- Largest density in mD (R47, R58). -/
abbrev maxDensity : Nat := 4000
/-- Largest magnitude of a deviation in mD (R56). -/
abbrev maxDeviation : Int := 999
/-- Largest magnitude of a reader offset in mD (R29). -/
abbrev maxOffset : Int := 150
/-- Largest magnitude of an aim shift in mD (R11). -/
abbrev maxShift : Int := 500
/-- Largest run length (R69). -/
abbrev maxRun : Nat := 255

/-- FREE VALUE (log entry 10): the position byte that JOB STATUS reports for a DAY job whose last
APPLY step is done and whose end (R107) is not. R114 gives "the next slot", and there is none.
It is applied to the counter `fresh` of State. -/
opaque endPosition : Nat → Byte

end Sys2Proof.Config
end

