-- ==== Sys2Proof/Syntax.lean ====
section
/-! DEFINITION. The commands of the block: one constructor per row of spec/opcode_table.json.
The executor's commands carry no operand of their own: their operands are in the frame the
executor holds (R168), which FRAME_ARRIVAL brought (log entry 4). -/

namespace Sys2Proof

/-- The three link ports; arbitration order A, B, C, then A again (00_scope, Identifiers). -/
inductive Port
  | a | b | c
  deriving DecidableEq, Repr

/-- The steps of the part, in the order of spec/opcode_table.json. -/
inductive Instr
  /-- POWER_ON (R117). -/
  | powerOn
  /-- WARM_RESET (R115): RESET is asserted. -/
  | warmReset
  /-- RESET_RELEASE (R158): RESET is released. -/
  | resetRelease
  /-- SELECT_ASSERT (R160): the port's xSEL is asserted. -/
  | selectAssert (port : Port)
  /-- RESPONSE_SENT (R160): the last CRC bit of the response being sent has left the port. -/
  | responseSent (port : Port)
  /-- FRAME_ARRIVAL (R159): the port's xSEL is deasserted. The period's bits on xDI were
  `bytes`, most significant bit first, and then the up to seven further bits `tail`. -/
  | frameArrival (port : Port) (bytes : List Byte) (tail : List Bool)
  /-- UNKNOWN_COMMAND (R169). -/
  | unknownCommand
  /-- LINK_CLEAR (R165): the frame that arrives is a good LINK CLEAR with this tag and payload. -/
  | linkClear (port : Port) (tag : Byte) (payload : List Byte)
  /-- IDENTIFY (R173). -/
  | identify
  /-- STATUS (R174). -/
  | status
  /-- CONFIGURE (R180). -/
  | configure
  /-- ATTENTION_SET (R158). -/
  | attentionSet
  /-- JOB_STATUS (R114). -/
  | jobStatus
  /-- FAMILY_SET (R4). -/
  | familySet
  /-- FAMILY_GET (R10). -/
  | familyGet
  /-- LOT_LOAD (R14). -/
  | lotLoad
  /-- LOT_DROP (R17). -/
  | lotDrop
  /-- LOT_GET (R18). -/
  | lotGet
  /-- LANE_ENROL (R23). -/
  | laneEnrol
  /-- LANE_RETIRE (R26). -/
  | laneRetire
  /-- LOT_ASSIGN (R27). -/
  | lotAssign
  /-- LANE_SUSPEND (R33). -/
  | laneSuspend
  /-- LANE_RESUME (R35). -/
  | laneResume
  /-- READ_LANE (R38). -/
  | readLane
  /-- COHORT_SET (R80). -/
  | cohortSet
  /-- COHORT_DISSOLVE (R83). -/
  | cohortDissolve
  /-- READ_COHORT (R84). -/
  | readCohort
  /-- STRIP_READ (R45). -/
  | stripRead
  /-- REFERENCE_READ (R31). -/
  | referenceRead
  /-- READ_SHEET_ENTRY (R52). -/
  | readSheetEntry
  /-- CLOSE_DAY (R53). -/
  | closeDay
  /-- REBUILD (R109). -/
  | rebuild
  /-- CANCEL_JOB (R112). -/
  | cancelJob
  /-- READ_CHART (R134). -/
  | readChart
  /-- EXCLUDE_DAY (R125). -/
  | excludeDay
  /-- LIST_ALERTS (R154). -/
  | listAlerts
  /-- ACK_ALERT (R155). -/
  | ackAlert
  /-- DAY_JOB_START (R102). -/
  | dayJobStart
  /-- DEVIATE_STEP (R103). -/
  | deviateStep
  /-- CENTER_STEP (R87). -/
  | centerStep
  /-- APPLY_STEP (R106). -/
  | applyStep
  /-- DAY_JOB_END (R107). -/
  | dayJobEnd
  /-- REBUILD_START (R128). -/
  | rebuildStart
  /-- REPLAY_STEP (R129). -/
  | replayStep
  /-- REBUILD_END (R111). -/
  | rebuildEnd
  /-- PULSE_START (R157): the port begins to deliver an owed pulse. -/
  | pulseStart (port : Port)
  /-- PULSE_END (R157): the pulse being delivered ends. -/
  | pulseEnd (port : Port)
  deriving DecidableEq, Repr

end Sys2Proof
end

