-- ==== Sys2Proof/WellFormed.lean ====
section
/-! DEFINITION. What operands a command may carry. -/

namespace Sys2Proof

/-- FRAME_ARRIVAL's bits are whole bytes and fewer than eight bits more; a LINK CLEAR payload fits
a frame (R161). Every other command takes any operand. -/
def Instr.wf : Instr → Bool
  | .frameArrival _ _ tail => tail.length < 8
  | .linkClear _ _ payload => payload.length ≤ Config.maxPayload
  | .powerOn | .warmReset | .resetRelease | .selectAssert _ | .responseSent _
  | .unknownCommand | .identify | .status | .configure | .attentionSet | .jobStatus
  | .familySet | .familyGet | .lotLoad | .lotDrop | .lotGet | .laneEnrol | .laneRetire
  | .lotAssign | .laneSuspend | .laneResume | .readLane | .cohortSet | .cohortDissolve
  | .readCohort | .stripRead | .referenceRead | .readSheetEntry | .closeDay | .rebuild
  | .cancelJob | .readChart | .excludeDay | .listAlerts | .ackAlert | .dayJobStart
  | .deviateStep | .centerStep | .applyStep | .dayJobEnd | .rebuildStart | .replayStep
  | .rebuildEnd | .pulseStart _ | .pulseEnd _ => true

end Sys2Proof
end

