-- ==== Sys2Proof/Decode.lean ====
section
/-! DEFINITION. The words of the opcode table: no row of it gives bits (log entry 17). -/

namespace Sys2Proof

/-- The command that a word spells by the table's bits. No row gives any (98_reader.md,
"n_rows_with_fixed": 0), so no word spells a command. -/
def decodeTableWord (_nbits _w : Nat) : Option Instr := none

end Sys2Proof
end

