-- ==== Sys2Proof/Machine/Table.lean ====
section
/-! DEFINITION. A table of a fixed number of like records, as plain data: a list whose length is
part of the type, so that no access can miss. -/

namespace Sys2Proof.Machine

/-- `n` records, numbered from 0. -/
structure Table (α : Type) (n : Nat) where
  cells : List α
  size : cells.length = n
  deriving DecidableEq, Repr

/-- A table of `n` equal records. -/
def Table.fill {α : Type} (n : Nat) (x : α) : Table α n := ⟨List.replicate n x, by simp⟩

/-- Record number `i`. -/
def Table.get {α : Type} {n : Nat} (t : Table α n) (i : Fin n) : α :=
  t.cells[i.val]'(by rw [t.size]; exact i.isLt)

/-- The table with record number `i` replaced. -/
def Table.set {α : Type} {n : Nat} (t : Table α n) (i : Fin n) (x : α) : Table α n :=
  ⟨t.cells.set i.val x, by simp [t.size]⟩

/-- The table with every record changed by `f`. -/
def Table.map {α : Type} {n : Nat} (f : α → α) (t : Table α n) : Table α n :=
  ⟨t.cells.map f, by simp [t.size]⟩

/-- The lowest number whose record satisfies `p`. -/
def Table.find {α : Type} {n : Nat} (p : α → Bool) (t : Table α n) : Option (Fin n) :=
  match t.cells.findIdx? p with
  | none => none
  | some i => if h : i < n then some ⟨i, h⟩ else none

end Sys2Proof.Machine
end

