-- ==== Sys2Proof/Machine/State.lean ====
section
/-! DEFINITION. Everything the spec gives the machine to hold, as plain data, and the state right
after power-on. The list with the rule of each piece is INVENTORY.md, section State. -/

namespace Sys2Proof.Machine

/-- A lane slot, 0..127. -/
abbrev Slot := Fin 128
/-- A cohort id, 0..15. -/
abbrev CohortId := Fin 16
/-- A family id, 0..3. -/
abbrev FamilyId := Fin 4
/-- A sheet number, 0..3. -/
abbrev SheetNo := Fin 4

/-! ### Families and lots (chapter 1) -/

/-- A densitometer channel. -/
inductive Channel
  | r | g | b
  deriving DecidableEq, Repr

/-- The structure part of a plan entry (R1, R2): its kind, its patches and its channel. -/
inductive EntryShape
  | single (a : Nat) (ch : Channel)
  | diff (a b : Nat) (ch : Channel)
  deriving DecidableEq, Repr

/-- One entry of a parameter plan with its limits W, A and T. -/
structure PlanEntry where
  shape : EntryShape
  warn : Nat
  act : Nat
  drift : Nat
  deriving DecidableEq, Repr

/-- One complete set of family settings (chapter 1, Settings). -/
structure Settings where
  patchCount : Nat
  plan : List PlanEntry
  runLimit : Nat
  shift : Nat
  settleDays : Nat
  quietLimit : Nat
  dormancyLimit : Nat
  refActivity : Bool
  deriving DecidableEq, Repr

/-- A family record (R1). It is UNDEFINED exactly when it has no active settings. -/
structure FamilyRecord where
  active : Option Settings
  pending : Option Settings
  deriving DecidableEq, Repr

/-- A lot record (R11). -/
structure LotRecord where
  code : Nat
  family : FamilyId
  published : List Nat
  shifts : List (Option Int)
  aims : List Int
  deriving DecidableEq, Repr

/-! ### Lanes (chapters 2, 4, 7, 8) -/

/-- A lane identity: store number and processor index. -/
structure Identity where
  store : Nat
  processor : Nat
  deriving DecidableEq, Repr

/-- The states of a lane (R20). -/
inductive LaneState
  | vacant | enrolled | settling | tracking | suspended
  deriving DecidableEq, Repr

/-- The conditions of a chart (R122). -/
inductive Chart
  | sound | rebuilding | unsettled
  deriving DecidableEq, Repr

/-- The sign of a run (R69); a run of length 0 has the sign `zero`. -/
inductive RunSign
  | zero | plus | minus
  deriving DecidableEq, Repr

/-- A run: a sign and a length 0..255 (R69). -/
structure Run where
  sign : RunSign
  length : Nat
  deriving DecidableEq, Repr

/-- The run of length 0. -/
def Run.none : Run := ⟨.zero, 0⟩

/-- The chart state of one parameter: S in sixteenths of an mD, and the run. -/
structure ParamState where
  s : Int
  run : Run
  deriving DecidableEq, Repr

/-- S of 0 and a run of length 0 (R24, R36, R128). -/
def ParamState.fresh : ParamState := ⟨0, Run.none⟩

/-- Verdicts (R71), from best to worst. -/
inductive Verdict
  | ok | warning | drift | action
  deriving DecidableEq, Repr

/-- The result of one parameter on one day (R118). -/
structure ParamResult where
  d : Int
  e : Option Int
  s : Option Int
  run : Run
  verdict : Verdict
  deriving DecidableEq, Repr

/-- The notes of a READING entry (R119). -/
structure ReadingNotes where
  refless : Bool
  clamped : Bool
  saturated : Bool
  noCenter : Bool
  settling : Bool
  unsettled : Bool
  lotSwitch : Bool
  deriving DecidableEq, Repr

/-- What one kind of history entry holds and the other does not (R118). -/
inductive DayRecord
  | reading (rerun : Nat) (notes : ReadingNotes) (results : List ParamResult) (verdict : Verdict)
  | missing (withdrawn : Bool)
  deriving DecidableEq, Repr

/-- A history entry (R118). -/
structure HistoryEntry where
  day : Nat
  lot : Nat
  excluded : Bool
  body : DayRecord
  deriving DecidableEq, Repr

/-- A lane record (R20). -/
structure Lane where
  state : LaneState
  suspendedFrom : Option LaneState
  identity : Option Identity
  family : Option FamilyId
  cohort : Option CohortId
  effective : Option Nat
  effectiveSince : Option Nat
  pendingLot : Option Nat
  effOffsets : Option (List Int)
  pendOffsets : Option (List Int)
  settleRemaining : Nat
  quiet : Nat
  dormancy : Nat
  chart : Chart
  params : List ParamState
  lastApplied : Option Nat
  latestVerdict : Option Verdict
  history : List HistoryEntry
  deriving DecidableEq, Repr

/-- Every field at the VACANT value of the table in R20. -/
def Lane.vacant : Lane where
  state := .vacant
  suspendedFrom := none
  identity := none
  family := none
  cohort := none
  effective := none
  effectiveSince := none
  pendingLot := none
  effOffsets := none
  pendOffsets := none
  settleRemaining := 0
  quiet := 0
  dormancy := 0
  chart := .sound
  params := []
  lastApplied := none
  latestVerdict := none
  history := []

/-! ### Day sheets (chapter 3) -/

/-- What DEVIATE adds to a strip entry (R44, R61). -/
structure Deviated where
  refless : Bool
  clamped : Bool
  saturated : Bool
  devs : List Int
  cohort : Option CohortId
  eligible : Bool
  deriving DecidableEq, Repr

/-- A strip entry (R44); `clamped` is the intake note. -/
structure StripEntry where
  lot : Nat
  raw : List Nat
  rerun : Nat
  clamped : Bool
  result : Option Deviated
  deriving DecidableEq, Repr

/-- The states of a sheet (R39). -/
inductive SheetState
  | free | opened | closing | evaluating
  deriving DecidableEq, Repr

/-- A day sheet (R39). -/
structure Sheet where
  state : SheetState
  day : Option Nat
  entries : Table (Option StripEntry) 128
  deriving DecidableEq, Repr

/-- A FREE sheet: no day and no entries (R39). -/
def Sheet.blank : Sheet := ⟨.free, none, Table.fill 128 none⟩

/-! ### Cohorts (chapter 5) -/

/-- MEDIAN mode with its quorum, ANCHOR mode with its optional anchor (R78). -/
inductive CohortMode
  | median (quorum : Nat)
  | anchor (slot : Option Slot)
  deriving DecidableEq, Repr

/-- A FORMED cohort record (R78). The last centers are all present or all absent. -/
structure Cohort where
  family : FamilyId
  mode : CohortMode
  members : List Slot
  lastDay : Option Nat
  centers : Option (List Int)
  count : Nat
  deriving DecidableEq, Repr

/-! ### Jobs (chapter 6) -/

/-- Stage and position of a running job: the step that comes next (R98). `applied` is a DAY job
after the APPLY step of slot 127, whose end is next; `replay n` has replayed n entries. -/
inductive Stage
  | deviate (slot : Slot)
  | center (id : CohortId)
  | apply (slot : Slot)
  | applied
  | replay (count : Nat)
  deriving DecidableEq, Repr

/-- A DAY job of a day or a REBUILD job of a slot (R96). -/
inductive JobKind
  | day (d : Nat)
  | rebuild (slot : Slot)
  deriving DecidableEq, Repr

/-- The states of a job (R96). -/
inductive JobState
  | queued
  | running (stage : Stage)
  deriving DecidableEq, Repr

/-- A job record (R97). -/
structure Job where
  id : Nat
  kind : JobKind
  state : JobState
  deriving DecidableEq, Repr

/-- The results of a finished job (R101). -/
inductive JobResult
  | done | cancelled | aborted
  deriving DecidableEq, Repr

/-- An outcome of the finished list (R101). -/
structure JobOutcome where
  id : Nat
  kind : JobKind
  result : JobResult
  deriving DecidableEq, Repr

/-! ### Alerts (chapter 9) -/

/-- Alert kinds (R146). -/
inductive AlertKind
  | action | dormant | drift | common | missed | refless
  deriving DecidableEq, Repr

/-- The subject of an alert: a lane, or for COMMON a cohort (R146). -/
inductive Subject
  | lane (slot : Slot)
  | cohort (id : CohortId)
  deriving DecidableEq, Repr

/-- An alert record (R146); its severity is that of its kind. -/
structure Alert where
  serial : Nat
  kind : AlertKind
  subject : Subject
  firstDay : Nat
  latestDay : Nat
  raises : Nat
  params : List Nat
  deriving DecidableEq, Repr

/-- Attention modes (R157). -/
inductive AttentionMode
  | off | level | pulse
  deriving DecidableEq, Repr

/-! ### Ports, arbiter, executor (chapter 10) -/

/-- The status codes of section 10.5. -/
inductive Status
  | ok | queued | frameError | portFull | unknownCommand | badLength | badValue | notConfigured
  | onceOnly | role | unknownLane | unknownLot | unknownFamily | unknownCohort | notFound
  | duplicate | full | busy | inUse | dayJob | changed | staleDay | earlyDay | noLot
  | lotMismatch | layout | suspended | refRange
  deriving DecidableEq, Repr

/-- A good command frame, less its marker, its status byte, its length and its CRC (R161). -/
structure Frame where
  code : Byte
  tag : Byte
  payload : List Byte
  deriving DecidableEq, Repr

/-- A placed response (R161, R168). -/
structure Response where
  code : Byte
  tag : Byte
  status : Status
  payload : List Byte
  deriving DecidableEq, Repr

/-- A port's select line: no period; a period under way, in which the oldest response is being
sent or not (R160); or a period that RESET has discarded (R164). -/
inductive Period
  | idle
  | active (sending : Bool)
  | discarded
  deriving DecidableEq, Repr

/-- One link port (R164, R157). -/
structure PortState where
  period : Period
  commands : List Frame
  responses : List Response
  mode : AttentionMode
  threshold : Nat
  owed : Nat
  pulsing : Bool
  deriving DecidableEq, Repr

/-- A port after power-on (R158, R164). -/
def PortState.reset : PortState := ⟨.idle, [], [], .off, 1, 0, false⟩

/-- One value for each port. -/
structure PerPort (α : Type) where
  a : α
  b : α
  c : α
  deriving DecidableEq, Repr

/-- A role set (R178). -/
structure RoleSet where
  intake : Bool
  review : Bool
  admin : Bool
  deriving DecidableEq, Repr

/-- The configuration record (R178). -/
structure ConfigRecord where
  configured : Bool
  roles : PerPort RoleSet
  allowances : PerPort Nat
  firstDay : Option Nat
  deriving DecidableEq, Repr

/-- The port arbiter (R166). -/
structure Arbiter where
  grant : Port
  credits : PerPort Nat
  deriving DecidableEq, Repr

/-- The command the executor has taken and not yet answered (R168). -/
structure Held where
  port : Port
  frame : Frame
  deriving DecidableEq, Repr

/-- The machine. `pending` is the queue of commands that wait to be taken, `fresh` the model's own
counter of free values read (log entry 10). -/
structure State where
  pending : List Instr
  fresh : Nat
  resetAsserted : Bool
  config : ConfigRecord
  ports : PerPort PortState
  arbiter : Arbiter
  executor : Option Held
  families : Table FamilyRecord 4
  lots : List LotRecord
  directory : List (Identity × Slot)
  lanes : Table Lane 128
  openDay : Option Nat
  sheets : Table Sheet 4
  cohorts : Table (Option Cohort) 16
  queue : List Job
  nextJobId : Nat
  finished : List JobOutcome
  alerts : List Alert
  nextSerial : Nat
  overflow : Bool
  deriving DecidableEq, Repr

/-- The configuration record after power-on (R178). -/
def ConfigRecord.reset : ConfigRecord :=
  ⟨false, ⟨⟨false, false, false⟩, ⟨false, false, false⟩, ⟨false, false, false⟩⟩, ⟨0, 0, 0⟩, none⟩

/-- The machine right after power-on (R1, R11, R20, R21, R39, R40, R78, R96, R97, R101, R117, R146,
R158, R164, R166, R178); log entries 1, 2 and 10. -/
def State.reset : State where
  pending := []
  fresh := 0
  resetAsserted := false
  config := .reset
  ports := ⟨.reset, .reset, .reset⟩
  arbiter := ⟨.a, ⟨0, 0, 0⟩⟩
  executor := none
  families := Table.fill 4 ⟨none, none⟩
  lots := []
  directory := []
  lanes := Table.fill 128 .vacant
  openDay := none
  sheets := Table.fill 4 .blank
  cohorts := Table.fill 16 none
  queue := []
  nextJobId := 1
  finished := []
  alerts := []
  nextSerial := 1
  overflow := false

/-- Table contents that the spec's laws exclude. Every constructor is safe: the model stops where
the spec says the case does not arise; no run from power-on reaches one (log entry 15). -/
inductive Fault
  /-- A lane or cohort names no family, or one without active settings (R1, R24, R50). Raised by
  commands and steps that read a family's settings; safe. -/
  | familyAbsent
  /-- An entry or a lane names a lot without a record (R16, R60). Raised by DEVIATE_STEP; safe. -/
  | lotAbsent
  /-- A plan names a patch that the densities do not hold, or a contributor lacks a deviation (R50,
  R59, R87). Raised by LOT_LOAD, DEVIATE_STEP and CENTER_STEP; safe. -/
  | shapeMismatch
  /-- No sheet stands in the state the spec guarantees (R42, R46, R53). Raised by STRIP_READ,
  READ_SHEET_ENTRY, CLOSE_DAY, DEVIATE_STEP, CENTER_STEP and APPLY_STEP; safe. -/
  | sheetAbsent
  /-- The device is configured and holds no open day D (R40). Raised by STRIP_READ and
  READ_SHEET_ENTRY; safe. -/
  | openDayAbsent
  /-- APPLY meets an entry that DEVIATE has not deviated (R61, R103). Raised by APPLY_STEP; safe. -/
  | resultAbsent
  /-- APPLY meets a REBUILDING chart (R63, R123). Raised by APPLY_STEP; safe. -/
  | chartRebuilding
  /-- A SETTLING or TRACKING lane has no effective lot (R35, R118). Raised by APPLY_STEP; safe. -/
  | effectiveAbsent
  /-- A SUSPENDED lane has no suspended-from state (R33). Raised by LANE_RESUME; safe. -/
  | suspendedFromAbsent
  deriving DecidableEq, Repr

/-- Why a command has no meaning. -/
inductive Refusal
  /-- The command has no meaning in this model yet. Raised by an arm of exec; safe. -/
  | notModelled (mnemonic : String)
  deriving DecidableEq, Repr

end Sys2Proof.Machine
end

