-- ==== Sys2Proof/Machine/Operands.lean ====
section
/-! DEFINITION. What stands in the bytes of a frame: reading a payload's fields (R170, R171),
writing a response's fields (R172), the CRC and the check of an arriving frame (R161), and the
command catalogue (section 10.5). -/

namespace Sys2Proof.Machine

/-! ### Reading a payload -/

/-- The one-byte field at an offset (R171). The payload length has been checked (R169) before any
field is read, so every offset that a command reads lies in its payload. -/
def byteAt (p : List Byte) (i : Nat) : Nat := (p.getD i 0).toNat

/-- The two-byte field at an offset, most significant byte first (00_scope, Numbers and ranges). -/
def wordAt (p : List Byte) (i : Nat) : Nat := byteAt p i * 256 + byteAt p (i + 1)

/-- The signed two-byte field at an offset, two's complement. -/
def intAt (p : List Byte) (i : Nat) : Int := (BitVec.ofNat 16 (wordAt p i)).toInt

/-- `n` two-byte fields from an offset on. -/
def wordsAt (p : List Byte) (i n : Nat) : List Nat :=
  (List.range n).map fun k => wordAt p (i + 2 * k)

/-- A number below `k` as an identifier of a table of `k` records. -/
def idOf (k n : Nat) : Option (Fin k) := if h : n < k then some ⟨n, h⟩ else none

/-- An indicator byte that a command carries: 0 or 1, anything else has no code (R170). -/
def boolOf (n : Nat) : Option Bool := if n = 0 then some false else if n = 1 then some true else none

/-- Channel codes (R170). -/
def channelOf (n : Nat) : Option Channel :=
  if n = 0 then some .r else if n = 1 then some .g else if n = 2 then some .b else none

/-- The channel's place among R, G, B (R11). -/
def Channel.index : Channel → Nat
  | .r => 0
  | .g => 1
  | .b => 2

/-- A role-set byte (R180). -/
def RoleSet.ofByte (n : Nat) : RoleSet := ⟨n % 2 = 1, n / 2 % 2 = 1, n / 4 % 2 = 1⟩

/-! ### Writing a response payload -/

/-- A one-byte field (R170). -/
def u8 (n : Nat) : List Byte := [BitVec.ofNat 8 n]

/-- A two-byte field, most significant byte first (R170). -/
def u16 (n : Nat) : List Byte := [BitVec.ofNat 8 (n / 256), BitVec.ofNat 8 n]

/-- A signed two-byte field in two's complement (R170). -/
def i16 (x : Int) : List Byte := u16 (BitVec.ofInt 16 x).toNat

/-- An indicator byte (R170). -/
def flag (b : Bool) : List Byte := [if b then 1 else 0]

/-- A one-byte field that may be absent: 0xFF when it is (R170). -/
def opt8 : Option Nat → List Byte
  | none => [0xFF]
  | some n => u8 n

/-- A two-byte field that may be absent: 0 when it is (R170). -/
def opt16 (x : Option Nat) : List Byte := u16 (x.getD 0)

/-- A signed field beside its presence byte: 0 when it is absent (R170). -/
def optI16 : Option Int → List Byte
  | none => flag false ++ i16 0
  | some x => flag true ++ i16 x

/-- A parameter set as a mask: bit i for parameter i (R170). -/
def paramMask (ps : List Nat) : List Byte := u16 (ps.foldl (fun m i => m ||| 2 ^ i) 0)

/-- Role-set byte (R170). -/
def RoleSet.code (r : RoleSet) : Nat :=
  (if r.intake then 1 else 0) + (if r.review then 2 else 0) + (if r.admin then 4 else 0)

/-- Lane state codes (R170). -/
def LaneState.code : LaneState → Nat
  | .vacant => 0 | .enrolled => 1 | .settling => 2 | .tracking => 3 | .suspended => 4

/-- Chart condition codes (R170). -/
def Chart.code : Chart → Nat
  | .sound => 0 | .rebuilding => 1 | .unsettled => 2

/-- Verdict codes (R170). -/
def Verdict.code : Verdict → Nat
  | .ok => 0 | .warning => 1 | .drift => 2 | .action => 3

/-- Run sign codes (R170). -/
def RunSign.code : RunSign → Nat
  | .zero => 0 | .plus => 1 | .minus => 2

/-- Sheet state codes (R170). -/
def SheetState.code : SheetState → Nat
  | .free => 0 | .opened => 1 | .closing => 2 | .evaluating => 3

/-- Alert kind codes (R170). -/
def AlertKind.code : AlertKind → Nat
  | .action => 0 | .dormant => 1 | .drift => 2 | .common => 3 | .missed => 4 | .refless => 5

/-- Attention mode codes (R170). -/
def AttentionMode.code : AttentionMode → Nat
  | .off => 0 | .level => 1 | .pulse => 2

/-- The attention mode of a code (R158, R170). -/
def attentionModeOf (n : Nat) : Option AttentionMode :=
  if n = 0 then some .off else if n = 1 then some .level else if n = 2 then some .pulse else none

/-- Channel codes (R170). -/
def Channel.code (c : Channel) : Nat := c.index

/-- Status codes (section 10.5). -/
def Status.code : Status → Byte
  | .ok => 0x00 | .queued => 0x01 | .frameError => 0x10 | .portFull => 0x11
  | .unknownCommand => 0x12 | .badLength => 0x13 | .badValue => 0x14 | .notConfigured => 0x15
  | .onceOnly => 0x16 | .role => 0x17 | .unknownLane => 0x20 | .unknownLot => 0x21
  | .unknownFamily => 0x22 | .unknownCohort => 0x23 | .notFound => 0x24 | .duplicate => 0x28
  | .full => 0x29 | .busy => 0x2A | .inUse => 0x2B | .dayJob => 0x2C | .changed => 0x2D
  | .staleDay => 0x30 | .earlyDay => 0x31 | .noLot => 0x32 | .lotMismatch => 0x33
  | .layout => 0x34 | .suspended => 0x35 | .refRange => 0x36

/-! ### The CRC and the frame (R161) -/

/-- One bit of the CRC: polynomial x^16 + x^12 + x^5 + 1, not reflected. -/
def crcBit (r : BitVec 16) : BitVec 16 := if r.msb then (r <<< 1) ^^^ 0x1021 else r <<< 1

/-- One byte fed into the CRC register, most significant bit first. -/
def crcByte (r : BitVec 16) (b : Byte) : BitVec 16 :=
  crcBit (crcBit (crcBit (crcBit (crcBit (crcBit (crcBit (crcBit
    (r ^^^ (b.zeroExtend 16 <<< 8)))))))))

/-- The CRC over a run of bytes; the register starts at 0xFFFF and no final value is XORed in. -/
def crc (bytes : List Byte) : BitVec 16 := bytes.foldl crcByte 0xFFFF

/-- A whole frame: header, payload, CRC (R161). -/
def frameBytes (marker code tag status : Byte) (payload : List Byte) : List Byte :=
  let body := [marker, code, tag, status] ++ u16 payload.length ++ payload
  body ++ u16 (crc body).toNat

/-- The bytes of a response as it is shifted out (R160, R161). -/
def Response.bytes (r : Response) : List Byte :=
  frameBytes 0xC5 r.code r.tag r.status.code r.payload

/-- Why a frame is bad (R161, R162). -/
inductive BadReason
  | partialBits | marker | length | crc | status
  deriving DecidableEq, Repr

/-- The reason byte of FRAME_ERROR (R162). -/
def BadReason.code : BadReason → Nat
  | .partialBits => 1 | .marker => 2 | .length => 3 | .crc => 4 | .status => 5

/-- The first check of R161 that an arriving frame fails. -/
def frameReason (bytes : List Byte) (tail : List Bool) : Option BadReason :=
  if tail ≠ [] then some .partialBits
  else if bytes.head? ≠ some 0x5C then some .marker
  else if bytes.length < 8 ∨ wordAt bytes 4 > Config.maxPayload ∨
      bytes.length ≠ 8 + wordAt bytes 4 then some .length
  else if wordAt bytes (6 + wordAt bytes 4) ≠ (crc (bytes.take (6 + wordAt bytes 4))).toNat then
    some .crc
  else if byteAt bytes 3 ≠ 0 then some .status
  else none

/-- What arrived in a select period (R159). -/
inductive Arrival
  | idle
  | bad (reason : BadReason) (code tag : Byte)
  | good (f : Frame)
  deriving DecidableEq, Repr

/-- A header byte to echo: 0 unless all six bytes of the header came (R162, log entry 14). -/
def headerEcho (bytes : List Byte) (i : Nat) : Byte := if bytes.length < 6 then 0 else bytes.getD i 0

/-- The idle test and the frame check at the end of a select period (R159, R161). -/
def classify (bytes : List Byte) (tail : List Bool) : Arrival :=
  if bytes.all (· == 0xFF) && tail.all id then .idle
  else match frameReason bytes tail with
    | some r => .bad r (headerEcho bytes 1) (headerEcho bytes 2)
    | none => .good ⟨bytes.getD 1 0, bytes.getD 2 0, (bytes.drop 6).take (wordAt bytes 4)⟩

/-! ### The command catalogue (section 10.5) -/

/-- The commands that the executor performs. -/
inductive Command
  | identify | status | configure | attentionSet | jobStatus | familySet | familyGet | lotLoad
  | lotDrop | lotGet | laneEnrol | laneRetire | lotAssign | laneSuspend | laneResume | readLane
  | cohortSet | cohortDissolve | readCohort | stripRead | referenceRead | readSheetEntry
  | closeDay | rebuild | cancelJob | readChart | excludeDay | listAlerts | ackAlert
  deriving DecidableEq, Repr

/-- Who may send a command: the column Role of the catalogue. -/
inductive Access
  | anyPort | configuredPort | intake | review | admin
  deriving DecidableEq, Repr

/-- The column Code of the catalogue. -/
def Command.code : Command → Byte
  | .identify => 0x01 | .status => 0x02 | .configure => 0x03 | .attentionSet => 0x04
  | .jobStatus => 0x05 | .familySet => 0x10 | .familyGet => 0x11 | .lotLoad => 0x12
  | .lotDrop => 0x13 | .lotGet => 0x14 | .laneEnrol => 0x20 | .laneRetire => 0x21
  | .lotAssign => 0x22 | .laneSuspend => 0x23 | .laneResume => 0x24 | .readLane => 0x25
  | .cohortSet => 0x28 | .cohortDissolve => 0x29 | .readCohort => 0x2A | .stripRead => 0x30
  | .referenceRead => 0x31 | .readSheetEntry => 0x32 | .closeDay => 0x33 | .rebuild => 0x38
  | .cancelJob => 0x39 | .readChart => 0x40 | .excludeDay => 0x41 | .listAlerts => 0x48
  | .ackAlert => 0x49

/-- The code of LINK CLEAR, which the port serves itself. -/
def linkClearCode : Byte := 0x06

/-- Every command of the catalogue that the executor performs. -/
def Command.all : List Command :=
  [.identify, .status, .configure, .attentionSet, .jobStatus, .familySet, .familyGet, .lotLoad,
    .lotDrop, .lotGet, .laneEnrol, .laneRetire, .lotAssign, .laneSuspend, .laneResume, .readLane,
    .cohortSet, .cohortDissolve, .readCohort, .stripRead, .referenceRead, .readSheetEntry,
    .closeDay, .rebuild, .cancelJob, .readChart, .excludeDay, .listAlerts, .ackAlert]

/-- Whether a code is in the catalogue (R169, check 1). -/
def catalogued (code : Byte) : Bool :=
  code == linkClearCode || Command.all.any fun c => c.code == code

/-- The column Role of the catalogue. -/
def Command.access : Command → Access
  | .identify | .status | .configure => .anyPort
  | .attentionSet | .jobStatus | .familyGet | .lotGet | .readLane => .configuredPort
  | .familySet | .lotLoad | .lotDrop | .laneEnrol | .laneRetire | .lotAssign | .laneSuspend
  | .laneResume | .cohortSet | .cohortDissolve | .closeDay | .cancelJob => .admin
  | .readCohort | .rebuild | .readChart | .excludeDay | .listAlerts | .ackAlert => .review
  | .stripRead | .referenceRead | .readSheetEntry => .intake

/-- The column Payload length of the catalogue, with the counts the payload declares (R171). A
payload too short to hold a count is shorter than every length that follows from one. -/
def Command.length (p : List Byte) : Command → Nat
  | .identify | .status => 0
  | .configure => 8
  | .attentionSet | .jobStatus | .lotDrop | .lotGet | .closeDay | .cancelJob | .listAlerts => 2
  | .familySet => 9 + 10 * byteAt p 8
  | .familyGet | .laneRetire | .laneSuspend | .laneResume | .cohortDissolve | .readCohort
  | .rebuild => 1
  | .lotLoad => 5 + 6 * byteAt p 3 + 3 * byteAt p 4
  | .laneEnrol | .readLane | .readChart | .excludeDay => 4
  | .lotAssign | .ackAlert => 3
  | .cohortSet => 6 + byteAt p 5
  | .stripRead => 9 + 6 * byteAt p 8
  | .referenceRead => 7 + 6 * byteAt p 6
  | .readSheetEntry => 5

/-- Whether a role set lets a port send a command on a configured device (R169, check 3). -/
def Access.allows (r : RoleSet) : Access → Bool
  | .anyPort | .configuredPort => true
  | .intake => r.intake
  | .review => r.review
  | .admin => r.admin

end Sys2Proof.Machine
end

