-- ==== Sys2Proof/Machine/Ops.lean ====
section
/-! DEFINITION. The shared operations over the state: ports, response places and the arbiter
(chapter 10), lookups, the work queue (chapter 6), and the frame of every executor command. -/

namespace Sys2Proof.Machine

/-! ### One value for each port -/

/-- The value of a port. -/
def PerPort.get {α : Type} (x : PerPort α) : Port → α
  | .a => x.a
  | .b => x.b
  | .c => x.c

/-- The values with one port's replaced. -/
def PerPort.set {α : Type} (x : PerPort α) (p : Port) (v : α) : PerPort α :=
  match p with
  | .a => { x with a := v }
  | .b => { x with b := v }
  | .c => { x with c := v }

/-- The values with every port's changed by `f`. -/
def PerPort.map {α β : Type} (f : α → β) (x : PerPort α) : PerPort β := ⟨f x.a, f x.b, f x.c⟩

/-- The other two ports in the order A, B, C, A that follows a port (R167). -/
def nextPorts : Port → List Port
  | .a => [.b, .c]
  | .b => [.c, .a]
  | .c => [.a, .b]

/-! ### Ascending order -/

/-- A value put into an ascending list. -/
def insertSorted {α : Type} [LE α] [DecidableLE α] (x : α) : List α → List α
  | [] => [x]
  | y :: ys => if x ≤ y then x :: y :: ys else y :: insertSorted x ys

/-- Ascending order, repeated values kept. -/
def sortAscending {α : Type} [LE α] [DecidableLE α] : List α → List α
  | [] => []
  | x :: xs => insertSorted x (sortAscending xs)

/-! ### Reading and replacing one record -/

def State.port (s : State) (p : Port) : PortState := s.ports.get p
def State.setPort (s : State) (p : Port) (x : PortState) : State :=
  { s with ports := s.ports.set p x }
def State.lane (s : State) (i : Slot) : Lane := s.lanes.get i
def State.setLane (s : State) (i : Slot) (x : Lane) : State := { s with lanes := s.lanes.set i x }
def State.sheet (s : State) (i : SheetNo) : Sheet := s.sheets.get i
def State.setSheet (s : State) (i : SheetNo) (x : Sheet) : State :=
  { s with sheets := s.sheets.set i x }
def State.cohort (s : State) (i : CohortId) : Option Cohort := s.cohorts.get i
def State.setCohort (s : State) (i : CohortId) (x : Option Cohort) : State :=
  { s with cohorts := s.cohorts.set i x }
def State.family (s : State) (i : FamilyId) : FamilyRecord := s.families.get i
def State.setFamily (s : State) (i : FamilyId) (x : FamilyRecord) : State :=
  { s with families := s.families.set i x }

/-! ### Lookups -/

/-- The lot record of a code (R11). -/
def State.findLot (s : State) (code : Nat) : Option LotRecord :=
  s.lots.find? fun l => l.code == code

/-- The slot that the directory gives an identity (R21). -/
def State.findLane (s : State) (id : Identity) : Option Slot :=
  (s.directory.find? fun e => e.1 == id).map (·.2)

/-- The active settings of a lane's family (R9). -/
def State.laneSettings (s : State) (l : Lane) : Option Settings :=
  match l.family with
  | none => none
  | some f => (s.family f).active

/-- The OPEN sheet of a day (R46). -/
def State.openSheet (s : State) (day : Nat) : Option SheetNo :=
  s.sheets.find fun sh => sh.state == .opened && sh.day == some day

/-- The EVALUATING sheet of a day (R42). -/
def State.evaluatingSheet (s : State) (day : Nat) : Option SheetNo :=
  s.sheets.find fun sh => sh.state == .evaluating && sh.day == some day

/-- The slot checks of R22. -/
def State.checkSlot (s : State) (n : Nat) : Except Status Slot :=
  match idOf 128 n with
  | none => .error .badValue
  | some i => if (s.lane i).state = .vacant then .error .unknownLane else .ok i

/-! ### Response places (R164) -/

/-- The places of a port's response buffer that the executor has reserved (R164, R168). -/
def State.reservedPlaces (s : State) (p : Port) : Nat :=
  match s.executor with
  | none => 0
  | some h => if h.port = p then 1 else 0

/-- Whether a port's response buffer has a free place (R164). -/
def State.freePlace (s : State) (p : Port) : Bool :=
  (s.port p).responses.length + s.reservedPlaces p < Config.portPlaces

/-- A response placed at the tail of a port's response buffer. -/
def State.placeResponse (s : State) (p : Port) (r : Response) : State :=
  s.setPort p { s.port p with responses := (s.port p).responses ++ [r] }

/-! ### The arbiter (R166, R167) -/

/-- Whether a port holds a command and has a free response place (R166). -/
def State.eligible (s : State) (p : Port) : Bool :=
  !(s.port p).commands.isEmpty && s.freePlace p

/-- A port's allowance; 0 is no limit (R166). -/
def State.allowance (s : State) (p : Port) : Nat := s.config.allowances.get p

/-- A port's credit. -/
def State.credit (s : State) (p : Port) : Nat := s.arbiter.credits.get p

/-- A port's credit replaced. -/
def State.setCredit (s : State) (p : Port) (n : Nat) : State :=
  { s with arbiter := { s.arbiter with credits := s.arbiter.credits.set p n } }

/-- A port's credit reloaded to its allowance (R167). -/
def State.reloadCredit (s : State) (p : Port) : State := s.setCredit p (s.allowance p)

/-- The grant given to a port. -/
def State.setGrant (s : State) (p : Port) : State :=
  { s with arbiter := { s.arbiter with grant := p } }

/-- The executor takes the oldest frame of a port and reserves a place for its response (R168); a
take from a port with an allowance costs one credit (R167). -/
def State.take (s : State) (p : Port) : State :=
  match (s.port p).commands with
  | [] => s
  | f :: rest =>
    let s' := { s.setPort p { s.port p with commands := rest } with executor := some ⟨p, f⟩ }
    if s.allowance p = 0 then s' else s'.setCredit p (s.credit p - 1)

/-- The arbiter's choice when the executor is free (R167, cases 1 to 4). While RESET is asserted
the executor takes no command (R115). -/
def State.arbitrate (s : State) : State :=
  if s.executor.isSome || s.resetAsserted then s
  else
    let g := s.arbiter.grant
    if s.eligible g && (s.allowance g == 0 || 0 < s.credit g) then s.take g
    else match (nextPorts g).find? fun p => s.eligible p with
      | some p => ((s.reloadCredit g).setGrant p).take p
      | none => if s.eligible g then (s.reloadCredit g).take g else s

/-! ### The frame of every executor command (R168, R169) -/

/-- What performing a command gives: the tables afterwards and the response's status and payload,
or the table contents that the spec excludes. -/
inductive Reply
  | done (s : State) (status : Status) (payload : List Byte)
  | broken (f : Fault)

/-- A refusal: the status alone, and no other effect (00_scope, Names; R168). -/
def Reply.refuse (s : State) (st : Status) : Reply := .done s st []

/-- The executor's checks 2 to 4 of R169; check 1, the code, decides which command is due. -/
def executorCheck (s : State) (h : Held) (c : Command) : Option Status :=
  if !s.config.configured && c.access != .anyPort then some .notConfigured
  else if s.config.configured && !c.access.allows (s.config.roles.get h.port) then some .role
  else if h.frame.payload.length ≠ c.length h.frame.payload then some .badLength
  else none

/-- The response of the held command is placed in its reserved place, the executor is free, and
the arbiter chooses again (R167, R168). -/
def answer (h : Held) (st : Status) (payload : List Byte) (s : State) : State :=
  (({ s with executor := none } : State).placeResponse h.port
    ⟨h.frame.code, h.frame.tag, st, payload⟩).arbitrate

/-- One executor command: due when the executor holds a frame of its code, else nothing happens
(log entry 3). -/
def runCommand (c : Command) (body : Held → State → Reply) (s : State) :
    Host.Outcome State Fault Refusal :=
  match s.executor with
  | none => .next s
  | some h =>
    if h.frame.code ≠ c.code then .next s
    else match executorCheck s h c with
      | some st => .next (answer h st [] s)
      | none => match body h s with
        | .done s' st payload => .next (answer h st payload s')
        | .broken f => .fault f

/-! ### Ids (R97, R147) -/

/-- The number after n in 1..65535, after which comes 1. -/
def nextWord (n : Nat) : Nat := if n < Config.maxWord then n + 1 else 1

/-- The first number from n on that is not held; at most `fuel` numbers are skipped. -/
def skipHeld (held : List Nat) : Nat → Nat → Nat
  | 0, n => n
  | fuel + 1, n => if n ∈ held then skipHeld held fuel (nextWord n) else n

/-- The id counter after giving n: the next number that nothing holds. -/
def advanceId (held : List Nat) (n : Nat) : Nat := skipHeld held held.length (nextWord n)

/-! ### The work queue and the finished list (R96, R97, R101) -/

/-- The ids that a master can ask about (R97). -/
def State.heldJobIds (s : State) : List Nat := s.queue.map (·.id) ++ s.finished.map (·.id)

/-- A job joins the tail of the queue with the next id (R96, R97). -/
def State.joinJob (s : State) (kind : JobKind) : State :=
  let s' : State := { s with queue := s.queue ++ [⟨s.nextJobId, kind, .queued⟩] }
  { s' with nextJobId := advanceId s'.heldJobIds s.nextJobId }

/-- The finished list with an outcome added; at 8 the oldest is dropped (R101). -/
def addOutcome (o : JobOutcome) (l : List JobOutcome) : List JobOutcome :=
  (l ++ [o]).drop ((l ++ [o]).length - Config.maxFinished)

/-- A job leaves the queue and its outcome joins the finished list (R101). -/
def State.finishJob (s : State) (j : Job) (r : JobResult) : State :=
  { s with queue := s.queue.eraseP fun x => x.id == j.id
           finished := addOutcome ⟨j.id, j.kind, r⟩ s.finished }

/-- The running job and its stage: only the head of the queue may be RUNNING (R96). -/
def State.running (s : State) : Option (Job × Stage) :=
  match s.queue with
  | [] => none
  | j :: _ => match j.state with
    | .queued => none
    | .running st => some (j, st)

/-- The running job and its stage when the unit may take a step: not while RESET is asserted (R115). -/
def State.stepping (s : State) : Option (Job × Stage) := if s.resetAsserted then none else s.running

/-- Whether a DAY job is RUNNING. -/
def State.dayRunning (s : State) : Bool :=
  match s.running with
  | some (j, _) => match j.kind with
    | .day _ => true
    | .rebuild _ => false
  | none => false

/-- Whether the REBUILD job of a lane is RUNNING. -/
def State.rebuildRunning (s : State) (i : Slot) : Bool :=
  match s.running with
  | some (j, _) => j.kind == .rebuild i
  | none => false

/-- The REBUILD job of a lane in the queue, queued or running. -/
def State.findRebuild (s : State) (i : Slot) : Option Job :=
  s.queue.find? fun j => j.kind == .rebuild i

/-- The head job's state replaced. -/
def State.setHeadState (s : State) (st : JobState) : State :=
  match s.queue with
  | [] => s
  | j :: rest => { s with queue := { j with state := st } :: rest }

/-- The running job goes on to a stage and position. -/
def State.setStage (s : State) (st : Stage) : State := s.setHeadState (.running st)

/-- The head job, when the unit may start it: nothing runs and RESET is released (R98, R115). -/
def State.startable (s : State) : Option Job :=
  if s.resetAsserted then none
  else match s.queue with
    | [] => none
    | j :: _ => match j.state with
      | .queued => some j
      | .running _ => none

end Sys2Proof.Machine
end

