-- ==== Sys2Proof/Machine/Flags.lean ====
section
/-! DEFINITION. The lines a port drives (xRDY, xATN, xDO), the alert severities behind them, the
owed pulses, and the note bytes of the link. -/

namespace Sys2Proof.Machine

/-- Severity of an alert kind (R146). -/
def AlertKind.severity : AlertKind → Nat
  | .action | .dormant => 3
  | .drift | .common => 2
  | .missed | .refless => 1

/-- Whether a record of a kind qualifies for a port (R157). -/
def PortState.qualifies (x : PortState) (k : AlertKind) : Bool := x.threshold ≤ k.severity

/-- xRDY of a port: asserted while it holds a placed response (R164). -/
def State.rdy (s : State) (p : Port) : Bool := !(s.port p).responses.isEmpty

/-- xATN of a port (R157, R158): released while RESET is asserted. -/
def State.atn (s : State) (p : Port) : Bool :=
  !s.resetAsserted && match (s.port p).mode with
    | .off => false
    | .level => s.alerts.any fun al => (s.port p).qualifies al.kind
    | .pulse => (s.port p).pulsing

/-- What a port shifts out from the start of its select period (R160): the oldest response when
one is being sent, and nothing but 0xFF bytes (`xdoByte`) otherwise. R160 and R164 do not say what
goes out for the rest of a period that a warm reset discards in mid-response: 0xFF bytes are the model's
choice (log entry 21). -/
def State.xdo (s : State) (p : Port) : List Byte :=
  match (s.port p).period, (s.port p).responses with
  | .active true, r :: _ => r.bytes
  | _, _ => []

/-- Byte number `i` of what a port shifts out (R160): 0xFF before, between and after responses, and in a
discarded period (log entry 21). -/
def State.xdoByte (s : State) (p : Port) (i : Nat) : Byte := (s.xdo p).getD i 0xFF

/-- A pulse owed for a raise of a kind (R157): to a port in PULSE mode when the record qualifies,
holding at 255. -/
def PortState.owe (k : AlertKind) (x : PortState) : PortState :=
  if x.mode = .pulse ∧ x.qualifies k then { x with owed := min Config.maxCount (x.owed + 1) } else x

/-- The intake notes byte (R170): bit 6 CLAMPED. -/
def intakeNotes (clamped : Bool) : Nat := if clamped then 64 else 0

/-- The notes byte of a READING entry (R176). -/
def ReadingNotes.code (n : ReadingNotes) : Nat :=
  (if n.refless then 128 else 0) + (if n.clamped then 64 else 0) + (if n.saturated then 32 else 0)
    + (if n.noCenter then 16 else 0) + (if n.settling then 8 else 0)
    + (if n.unsettled then 4 else 0) + (if n.lotSwitch then 2 else 0)

end Sys2Proof.Machine
end

