-- ==== Sys2Proof/Machine/Alerts.lean ====
section
/-! DEFINITION. The alert list (chapter 9): raising a record, removing a subject's records,
LIST_ALERTS and ACK_ALERT. -/

namespace Sys2Proof.Machine

/-- A raise as it reaches the list (section 9.2). -/
structure Raise where
  kind : AlertKind
  subject : Subject
  day : Nat
  params : List Nat
  deriving DecidableEq, Repr

/-- Whether a record has a raise's kind and subject. -/
def Alert.matches (r : Raise) (a : Alert) : Bool := a.kind == r.kind && a.subject == r.subject

/-- A record updated in place (R148). -/
def Alert.update (r : Raise) (a : Alert) : Alert :=
  { a with latestDay := r.day, raises := min Config.maxCount (a.raises + 1), params := r.params }

/-- A new record (R149). -/
def Raise.record (r : Raise) (serial : Nat) : Alert :=
  ⟨serial, r.kind, r.subject, r.day, r.day, 1, r.params⟩

/-- The pulses that a creation or an update of a record of a kind owes (R157). -/
def State.owePulses (s : State) (k : AlertKind) : State :=
  { s with ports := s.ports.map (PortState.owe k) }

/-- A new record at the tail of a list, with the next serial (R147, R149). -/
def State.createAlert (s : State) (r : Raise) (room : List Alert) : State :=
  let list := room ++ [r.record s.nextSerial]
  ({ s with alerts := list
            nextSerial := advanceId (list.map (·.serial)) s.nextSerial } : State).owePulses r.kind

/-- A raise (R148, R149, R150, R151): update in place; or create; or displace the oldest record of
lower severity and create; or drop the raise and set the overflow indicator. -/
def State.raise (s : State) (r : Raise) : State :=
  if s.alerts.any (Alert.matches r) then
    ({ s with alerts := s.alerts.map fun a => if a.matches r then a.update r else a } :
      State).owePulses r.kind
  else if s.alerts.length < Config.maxAlerts then s.createAlert r s.alerts
  else if s.alerts.any (fun a => a.kind.severity < r.kind.severity) then
    s.createAlert r (s.alerts.eraseP fun a => a.kind.severity < r.kind.severity)
  else { s with overflow := true }

/-- The list after a removal; the overflow indicator is cleared when the list is empty (R151). -/
def State.setAlerts (s : State) (l : List Alert) : State :=
  { s with alerts := l, overflow := s.overflow && !l.isEmpty }

/-- Every record of a subject removed (R153). -/
def State.removeSubject (s : State) (x : Subject) : State :=
  s.setAlerts (s.alerts.filter fun a => a.subject != x)

/-- As many elements as fit in a room and a count, in order (R154, R177). -/
def takeFit {α : Type} (size : α → Nat) : Nat → Nat → List α → List α
  | _, _, [] => []
  | room, count, x :: xs =>
    if count = 0 ∨ room < size x then []
    else x :: takeFit size (room - size x) (count - 1) xs

/-- A record in a LIST ALERTS response, 12 bytes (R172). -/
def Alert.bytes (a : Alert) : List Byte :=
  u16 a.serial ++ u8 a.kind.code
    ++ (match a.subject with
      | .lane i => u8 i.val
      | .cohort c => u8 c.val)
    ++ u8 a.kind.severity ++ u16 a.firstDay ++ u16 a.latestDay ++ u8 a.raises ++ paramMask a.params

/-- The payload of LIST ALERTS from a suffix of the list (R154, R172): head 3 bytes, tail 3 bytes. -/
def alertsPayload (s : State) (rest : List Alert) : List Byte :=
  let page := takeFit (fun a => a.bytes.length) (Config.maxPayload - 6) rest.length rest
  let next := rest[page.length]?
  u8 s.alerts.length ++ flag s.overflow ++ u8 page.length ++ page.flatMap Alert.bytes
    ++ flag next.isSome ++ opt16 (next.map (·.serial))

/-- LIST ALERTS (R154). -/
def listAlertsBody (h : Held) (s : State) : Reply :=
  let start := wordAt h.frame.payload 0
  if start = 0 then .done s .ok (alertsPayload s s.alerts)
  else
    let rest := s.alerts.dropWhile fun a => a.serial != start
    if rest.isEmpty then .refuse s .notFound else .done s .ok (alertsPayload s rest)

def execListAlerts (s : State) : Host.Outcome State Fault Refusal :=
  runCommand .listAlerts listAlertsBody s

/-- ACK ALERT (R155). -/
def ackAlertBody (h : Held) (s : State) : Reply :=
  let serial := wordAt h.frame.payload 0
  match s.alerts.find? (fun a => a.serial == serial) with
  | none => .refuse s .notFound
  | some a =>
    if a.raises ≠ byteAt h.frame.payload 2 then
      .done s .changed (u8 a.raises ++ u16 a.latestDay)
    else
      let s' := s.setAlerts (s.alerts.filter fun x => x.serial != serial)
      .done s' .ok (u16 serial ++ u8 s'.alerts.length)

def execAckAlert (s : State) : Host.Outcome State Fault Refusal :=
  runCommand .ackAlert ackAlertBody s

end Sys2Proof.Machine
end

