-- ==== Sys2Proof/Machine/Cohorts.lean ====
section
/-! DEFINITION. COHORT_SET, COHORT_DISSOLVE, READ_COHORT (chapter 5). -/

namespace Sys2Proof.Machine

/-! ### COHORT SET -/

/-- The member list of a COHORT SET payload as numbers (R171). -/
def memberBytes (p : List Byte) : List Nat :=
  (List.range (byteAt p 5)).map fun i => byteAt p (6 + i)

/-- The member slots of a list of numbers, none when one is above 127. -/
def memberSlots : List Nat → Option (List Slot)
  | [] => some []
  | n :: rest =>
    match idOf 128 n, memberSlots rest with
    | some i, some is => some (i :: is)
    | _, _ => none

/-- The mode of a COHORT SET payload with its quorum or its anchor, none where R80 check 1 refuses
them: the unused field is ignored (section 5.2). -/
def cohortModeOf (mode quorum anchor : Nat) (members : List Slot) : Option CohortMode :=
  if mode = 0 then
    if 3 ≤ quorum ∧ quorum ≤ 16 ∧ quorum ≤ members.length then some (.median quorum) else none
  else if mode = 1 then
    match idOf 128 anchor with
    | none => none
    | some a => if members.contains a then some (.anchor (some a)) else none
  else none

/-- What a COHORT SET payload supplies when it passes R80 check 1. -/
structure CohortRequest where
  id : CohortId
  family : FamilyId
  mode : CohortMode
  members : List Slot
  deriving DecidableEq, Repr

/-- R80 check 1. -/
def cohortRequestOf (p : List Byte) : Option CohortRequest :=
  match idOf 16 (byteAt p 0), idOf 4 (byteAt p 1), memberSlots (memberBytes p) with
  | some c, some f, some ms =>
    if ms.length = 0 ∨ 16 < ms.length ∨ ¬ ms.Nodup then none
    else (cohortModeOf (byteAt p 2) (byteAt p 3) (byteAt p 4) ms).map fun m => ⟨c, f, m, ms⟩
  | _, _, _ => none

/-- R80 checks 3 to 5: the status and the first member, in the order supplied, that fails. -/
def memberRefusal (s : State) (r : CohortRequest) : Option (Status × Slot) :=
  match r.members.find? fun i => (s.lane i).state == .vacant with
  | some i => some (.unknownLane, i)
  | none =>
    match r.members.find? fun i => (s.lane i).family != some r.family with
    | some i => some (.lotMismatch, i)
    | none =>
      match r.members.find? fun i => (s.lane i).cohort.isSome && (s.lane i).cohort != some r.id with
      | some i => some (.inUse, i)
      | none => none

/-- The cohort field of a list of lanes set (R79). -/
def State.setCohortField (x : Option CohortId) : List Slot → State → State
  | [], s => s
  | i :: rest, s => State.setCohortField x rest (s.setLane i { s.lane i with cohort := x })

/-- The members of a cohort record; a FREE cohort has none. -/
def membersOf (c : Option Cohort) : List Slot :=
  match c with
  | none => []
  | some x => x.members

/-- The members that a COHORT SET leaves out (R81). -/
def leavers (s : State) (r : CohortRequest) : List Slot :=
  (membersOf (s.cohort r.id)).filter fun i => !r.members.contains i

/-- COHORT SET's effect (R81). -/
def State.formCohort (s : State) (r : CohortRequest) : State :=
  (State.setCohortField (some r.id) r.members (State.setCohortField none (leavers s r) s)).setCohort
    r.id (some ⟨r.family, r.mode, sortAscending r.members, none, none, 0⟩)

/-- COHORT SET (R80, R81). -/
def cohortSetBody (h : Held) (s : State) : Reply :=
  match cohortRequestOf h.frame.payload with
  | none => .refuse s .badValue
  | some r =>
    if (s.family r.family).active.isNone then .refuse s .unknownFamily
    else match memberRefusal s r with
      | some (st, i) => .done s st (u8 i.val)
      | none =>
        if s.dayRunning then .refuse s .busy
        else .done (s.formCohort r) .ok
          (u8 r.id.val ++ u8 r.members.length
            ++ (sortAscending r.members).flatMap (fun i => u8 i.val)
            ++ u8 (leavers s r).length)

def execCohortSet (s : State) : Host.Outcome State Fault Refusal :=
  runCommand .cohortSet cohortSetBody s

/-! ### COHORT DISSOLVE -/

/-- COHORT DISSOLVE's effect (R83). -/
def State.dissolve (s : State) (c : CohortId) (members : List Slot) : State :=
  ((State.setCohortField none members s).removeSubject (.cohort c)).setCohort c none

/-- COHORT DISSOLVE (R83). -/
def cohortDissolveBody (h : Held) (s : State) : Reply :=
  match idOf 16 (byteAt h.frame.payload 0) with
  | none => .refuse s .badValue
  | some c =>
    match s.cohort c with
    | none => .refuse s .unknownCohort
    | some x =>
      if s.dayRunning then .refuse s .busy
      else .done (s.dissolve c x.members) .ok (u8 x.members.length)

def execCohortDissolve (s : State) : Host.Outcome State Fault Refusal :=
  runCommand .cohortDissolve cohortDissolveBody s

/-! ### READ COHORT -/

/-- The payload of READ COHORT for a FREE cohort: its id, FREE, every other field absent, member count
and P 0 (R84, R172, log entry 13). -/
def freeCohortPayload (c : CohortId) : List Byte :=
  u8 c.val ++ u8 0 ++ opt8 none ++ opt8 none ++ opt8 none ++ opt8 none ++ opt16 none ++ opt8 none
    ++ u8 0 ++ u8 0

/-- Mode, quorum and anchor bytes (R172). -/
def CohortMode.bytes : CohortMode → List Byte
  | .median q => u8 0 ++ u8 q ++ opt8 none
  | .anchor a => u8 1 ++ opt8 none ++ opt8 (a.map (·.val))

/-- The last centers, one for each entry of the plan: all present or all absent (R78, R172). -/
def centerBytes (planSize : Nat) : Option (List Int) → List Byte
  | none => u8 planSize ++ (List.replicate planSize (none : Option Int)).flatMap optI16
  | some cs => u8 cs.length ++ cs.flatMap fun c => optI16 (some c)

/-- The payload of READ COHORT for a FORMED cohort (R84, R172). -/
def cohortPayload (c : CohortId) (x : Cohort) (set : Settings) : List Byte :=
  u8 c.val ++ u8 1 ++ u8 x.family.val ++ x.mode.bytes ++ opt16 x.lastDay ++ u8 x.count
    ++ u8 x.members.length ++ x.members.flatMap (fun i => u8 i.val)
    ++ centerBytes set.plan.length x.centers

/-- READ COHORT (R84). -/
def readCohortBody (h : Held) (s : State) : Reply :=
  match idOf 16 (byteAt h.frame.payload 0) with
  | none => .refuse s .badValue
  | some c =>
    match s.cohort c with
    | none => .done s .ok (freeCohortPayload c)
    | some x =>
      match (s.family x.family).active with
      | none => .broken .familyAbsent
      | some set => .done s .ok (cohortPayload c x set)

def execReadCohort (s : State) : Host.Outcome State Fault Refusal :=
  runCommand .readCohort readCohortBody s

end Sys2Proof.Machine
end

