-- ==== Sys2Proof/Machine/Device.lean ====
section
/-! DEFINITION. IDENTIFY, STATUS, CONFIGURE, ATTENTION_SET and JOB_STATUS. -/

namespace Sys2Proof.Machine

/-- The fixed payload of IDENTIFY (R173). -/
def identifyPayload : List Byte :=
  [0x4E, 0x42, 0x01, 0x28, 3, 128, 16, 4, 32, 32, 8, 64,
    0x00, 0xFF, 0x0F, 0xF0, 0x55, 0xAA, 0x33, 0xCC]

/-- IDENTIFY (R173). -/
def identifyBody (_h : Held) (s : State) : Reply := .done s .ok identifyPayload

def execIdentify (s : State) : Host.Outcome State Fault Refusal := runCommand .identify identifyBody s

/-- Job kind codes (R170). -/
def JobKind.code : JobKind → Nat
  | .day _ => 0
  | .rebuild _ => 1

/-- The payload of STATUS (R174, R172). -/
def statusPayload (h : Held) (s : State) : List Byte :=
  flag s.config.configured ++ opt16 s.openDay
    ++ s.sheets.cells.flatMap (fun sh => u8 sh.state.code ++ opt16 sh.day)
    ++ u8 s.queue.length ++ opt16 (s.running.map fun r => r.1.id)
    ++ opt8 (s.running.map fun r => r.1.kind.code)
    ++ u8 s.alerts.length ++ flag s.overflow ++ u8 (s.config.roles.get h.port).code

/-- STATUS (R174). -/
def statusBody (h : Held) (s : State) : Reply := .done s .ok (statusPayload h s)

def execStatus (s : State) : Host.Outcome State Fault Refusal := runCommand .status statusBody s

/-- Check 2 of R180: role sets of three bits, allowances up to 15, D0 in 1..65533. -/
def configureValuesOk (p : List Byte) : Bool :=
  byteAt p 0 ≤ 7 && byteAt p 1 ≤ 7 && byteAt p 2 ≤ 7 &&
    byteAt p 3 ≤ 15 && byteAt p 4 ≤ 15 && byteAt p 5 ≤ 15 &&
    1 ≤ wordAt p 6 && wordAt p 6 ≤ 65533

/-- The effect of an accepted CONFIGURE (R180, R41, R166): the record is stored, every credit is
reloaded, the grant stays, and sheets 0 and 1 open for D0 and D0 + 1. -/
def State.configure (s : State) (p : List Byte) : State :=
  let allow : PerPort Nat := ⟨byteAt p 3, byteAt p 4, byteAt p 5⟩
  let d0 := wordAt p 6
  { s with
    config := ⟨true, ⟨RoleSet.ofByte (byteAt p 0), RoleSet.ofByte (byteAt p 1),
      RoleSet.ofByte (byteAt p 2)⟩, allow, some d0⟩
    arbiter := { s.arbiter with credits := allow }
    openDay := some d0
    sheets := (s.sheets.set 0 ⟨.opened, some d0, Table.fill 128 none⟩).set 1
      ⟨.opened, some (d0 + 1), Table.fill 128 none⟩ }

/-- CONFIGURE (R180). -/
def configureBody (h : Held) (s : State) : Reply :=
  let p := h.frame.payload
  if s.config.configured then .refuse s .onceOnly
  else if !configureValuesOk p then .refuse s .badValue
  else
    let s' := s.configure p
    .done s' .ok (u16 (wordAt p 6) ++ u8 (s'.config.roles.get h.port).code)

def execConfigure (s : State) : Host.Outcome State Fault Refusal :=
  runCommand .configure configureBody s

/-- ATTENTION SET (R158): the asking port's mode and threshold; owed pulses 0 and a pulse being
delivered ended. In LEVEL the line follows the list at once (State.atn). -/
def attentionSetBody (h : Held) (s : State) : Reply :=
  let t := byteAt h.frame.payload 1
  match attentionModeOf (byteAt h.frame.payload 0) with
  | none => .refuse s .badValue
  | some m =>
    if t < 1 ∨ 3 < t then .refuse s .badValue
    else .done (s.setPort h.port
        { s.port h.port with mode := m, threshold := t, owed := 0, pulsing := false }) .ok
      (u8 m.code ++ u8 t)

def execAttentionSet (s : State) : Host.Outcome State Fault Refusal :=
  runCommand .attentionSet attentionSetBody s

/-- Bytes 0 to 4 of JOB STATUS: id, kind, day or lane (R172). -/
def jobHead (id : Nat) : JobKind → List Byte
  | .day d => u16 id ++ u8 0 ++ u16 d
  | .rebuild i => u16 id ++ u8 1 ++ u8 0 ++ u8 i.val

/-- Stage and position bytes of a running job (R114, R170). After the last APPLY step the position
is the free value (log entry 10). -/
def stageBytes (fresh : Nat) : Stage → List Byte
  | .deviate i => u8 0 ++ u8 i.val
  | .center c => u8 1 ++ u8 c.val
  | .apply i => u8 2 ++ u8 i.val
  | .applied => u8 2 ++ [Config.endPosition fresh]
  | .replay n => u8 3 ++ u8 n

/-- Job result codes (R170). -/
def JobResult.code : JobResult → Nat
  | .done => 2 | .cancelled => 3 | .aborted => 4

/-- State byte, then bytes 6 and 7, of a job in the queue (R114, R172). -/
def jobStateBytes (s : State) (ahead : Nat) : JobState → List Byte
  | .queued => u8 0 ++ u8 ahead ++ [0xFF]
  | .running st => u8 1 ++ stageBytes s.fresh st

/-- The counter of free values after a report of a job: it advances when one was read. -/
def State.freshAfter (s : State) : JobState → State
  | .running .applied => { s with fresh := s.fresh + 1 }
  | .running (.deviate _) | .running (.center _) | .running (.apply _) | .running (.replay _)
  | .queued => s

/-- JOB STATUS (R114): the queue first, then the finished list. -/
def jobStatusBody (h : Held) (s : State) : Reply :=
  let id := wordAt h.frame.payload 0
  match s.queue.find? (fun j => j.id == id) with
  | some j =>
    .done (s.freshAfter j.state) .ok
      (jobHead j.id j.kind ++ jobStateBytes s (s.queue.findIdx fun x => x.id == id) j.state)
  | none =>
    match s.finished.find? (fun o => o.id == id) with
    | some o => .done s .ok (jobHead o.id o.kind ++ u8 o.result.code ++ [0xFF, 0xFF])
    | none => .refuse s .notFound

def execJobStatus (s : State) : Host.Outcome State Fault Refusal :=
  runCommand .jobStatus jobStatusBody s

end Sys2Proof.Machine
end

