-- ==== Sys2Proof/Machine/Arith.lean ====
section
/-! DEFINITION. The comparison arithmetic of chapter 4 and the plan of chapter 1: integers, exact,
bounded only where a rule bounds them (R56). -/

namespace Sys2Proof.Machine

/-- Clamp of a density to 0..4000 (R56). -/
def clampDensity (x : Int) : Int := max 0 (min (Config.maxDensity : Int) x)

/-- Saturation of a deviation to -999..+999 (R56). -/
def saturate (x : Int) : Int := max (-Config.maxDeviation) (min Config.maxDeviation x)

/-- The density of a patch in a channel, in strip order (R11, R44). -/
def densityAt (ds : List Int) (patch : Nat) (ch : Channel) : Option Int :=
  ds[patch * 3 + ch.index]?

/-- The value of one plan entry (R2). -/
def planValue (ds : List Int) : EntryShape → Option Int
  | .single a ch => densityAt ds a ch
  | .diff a b ch =>
    match densityAt ds a ch, densityAt ds b ch with
    | some x, some y => some (x - y)
    | _, _ => none

/-- Every value present, or none. -/
def allSome {α : Type} : List (Option α) → Option (List α)
  | [] => some []
  | none :: _ => none
  | some x :: rest => match allSome rest with
    | none => none
    | some xs => some (x :: xs)

/-- The plan applied to a set of densities: one value per entry, in plan order (R2). -/
def planValues (plan : List PlanEntry) (ds : List Int) : Option (List Int) :=
  allSome (plan.map fun e => planValue ds e.shape)

/-- The aims of a lot: plan values plus shifts, an absent shift counting as 0 (R12). -/
def lotAims (plan : List PlanEntry) (published : List Nat) (shifts : List (Option Int)) :
    Option (List Int) :=
  (planValues plan (published.map fun (x : Nat) => (x : Int))).map fun vs =>
    List.zipWith (fun v sh => v + sh.getD 0) vs shifts

/-- The smoothing update (R66): `/` on integers with a positive divisor rounds toward minus
infinity. -/
def smooth (k : Nat) (s e : Int) : Int := s + (16 * e - s) / (2 ^ k : Int)

/-- The run update (R69). -/
def stepRun (e : Int) (r : Run) : Run :=
  if e = 0 then Run.none
  else if 0 < e then
    if r.sign = .minus then ⟨.plus, 1⟩ else ⟨.plus, min Config.maxRun (r.length + 1)⟩
  else
    if r.sign = .plus then ⟨.minus, 1⟩ else ⟨.minus, min Config.maxRun (r.length + 1)⟩

/-- S and run of one parameter after a day with evaluated deviation e (R66, R69). -/
def ParamState.update (k : Nat) (e : Int) (x : ParamState) : ParamState :=
  ⟨smooth k x.s e, stepRun e x.run⟩

/-- The verdict of one parameter (R71); `driftTested` is false where R72 suppresses the test. -/
def verdictOf (entry : PlanEntry) (runLimit : Nat) (driftTested : Bool) (e : Int) (x : ParamState) :
    Verdict :=
  if e.natAbs > entry.act then .action
  else if driftTested && (x.s.natAbs > 16 * entry.drift && runLimit ≤ x.run.length) then .drift
  else if e.natAbs > entry.warn then .warning
  else .ok

/-- The worse of two verdicts, in the order ACTION, DRIFT, WARNING, OK (R73). -/
def Verdict.worse (a b : Verdict) : Verdict := if a.code < b.code then b else a

/-- The lane verdict: the worst of the parameter verdicts (R73). -/
def worstVerdict (vs : List Verdict) : Verdict := vs.foldl Verdict.worse .ok

/-- The median of R88: the middle value, or half the sum of the two middle values rounded toward
zero; none of no values. -/
def median (vs : List Int) : Option Int :=
  let l := sortAscending vs
  if l.length % 2 = 1 then l[l.length / 2]?
  else match l[l.length / 2 - 1]?, l[l.length / 2]? with
    | some x, some y => some ((x + y).tdiv 2)
    | _, _ => none

/-- The indices of the elements that satisfy a test, ascending. -/
def indicesWhere (bs : List Bool) : List Nat :=
  (List.range bs.length).filter fun i => bs.getD i false

/-- Patches in the order of the scan put in strip order: received patch i of n is strip patch
n - 1 - i on a REVERSE read (R31, R47). -/
def stripOrder (reverse : Bool) (n : Nat) (ds : List Nat) : List Nat :=
  if reverse then (List.range n).flatMap fun i => (ds.drop (3 * (n - 1 - i))).take 3 else ds

end Sys2Proof.Machine
end

