-- ==== Sys2Proof/Machine/Families.lean ====
section
/-! DEFINITION. FAMILY_SET, FAMILY_GET, LOT_LOAD, LOT_DROP, LOT_GET and the promotion of pending
settings (chapter 1). -/

namespace Sys2Proof.Machine

/-! ### Settings -/

/-- The structure of a set of settings, which R3 compares: patch count and plan shapes. -/
def Settings.layout (x : Settings) : Nat × List EntryShape := (x.patchCount, x.plan.map (·.shape))

/-- Kind, patches and channel of a plan entry (R4 check 2): a SINGLE entry carries no patch b (0xFF). -/
def shapeOf (patchCount kind a b ch : Nat) : Option EntryShape :=
  match channelOf ch with
  | none => none
  | some c =>
    if patchCount ≤ a then none
    else if kind = 0 then (if b = 0xFF then some (.single a c) else none)
    else if kind = 1 then (if b < patchCount ∧ b ≠ a then some (.diff a b c) else none)
    else none

/-- The plan entry at an offset of a FAMILY SET payload, none where a field is outside its range
(R4 check 2, R171). -/
def planEntryAt (p : List Byte) (patchCount off : Nat) : Option PlanEntry :=
  let w := wordAt p (off + 4)
  let a := wordAt p (off + 6)
  let t := wordAt p (off + 8)
  if 1 ≤ w ∧ w ≤ 998 ∧ w + 1 ≤ a ∧ a ≤ 999 ∧ 1 ≤ t ∧ t ≤ 999 then
    (shapeOf patchCount (byteAt p off) (byteAt p (off + 1)) (byteAt p (off + 2))
      (byteAt p (off + 3))).map fun sh => ⟨sh, w, a, t⟩
  else none

/-- The settings a FAMILY SET payload supplies, none where a field is outside its range (R4 check 2,
R171). -/
def settingsOf (p : List Byte) : Option Settings :=
  let n := byteAt p 1
  let count := byteAt p 8
  match boolOf (byteAt p 7),
      allSome ((List.range count).map fun i => planEntryAt p n (9 + 10 * i)) with
  | some act, some plan =>
    if 2 ≤ n ∧ n ≤ 8 ∧ 1 ≤ count ∧ count ≤ 12 ∧ 3 ≤ byteAt p 2 ∧ byteAt p 2 ≤ 15 ∧
        1 ≤ byteAt p 3 ∧ byteAt p 3 ≤ 3 ∧ byteAt p 4 ≤ 7 ∧ byteAt p 5 ≤ 15 ∧ byteAt p 6 ≤ 30 then
      some ⟨n, plan, byteAt p 2, byteAt p 3, byteAt p 4, byteAt p 5, byteAt p 6, act⟩
    else none
  | _, _ => none

/-- A plan entry in the layout of FAMILY SET (R171). -/
def PlanEntry.bytes (e : PlanEntry) : List Byte :=
  (match e.shape with
    | .single a ch => u8 0 ++ u8 a ++ [0xFF] ++ u8 ch.code
    | .diff a b ch => u8 1 ++ u8 a ++ u8 b ++ u8 ch.code)
  ++ u16 e.warn ++ u16 e.act ++ u16 e.drift

/-- Settings in the layout of FAMILY SET from its byte 1 (R171, R172). -/
def Settings.bytes (x : Settings) : List Byte :=
  u8 x.patchCount ++ u8 x.runLimit ++ u8 x.shift ++ u8 x.settleDays ++ u8 x.quietLimit
    ++ u8 x.dormancyLimit ++ flag x.refActivity ++ u8 x.plan.length
    ++ x.plan.flatMap PlanEntry.bytes

/-- The number of lots of a family (R10). -/
def State.lotCount (s : State) (f : FamilyId) : Nat := s.lots.countP fun l => l.family == f

/-- The active settings replaced, none pending (R5, R8). -/
def FamilyRecord.activate (x : Settings) : FamilyRecord := ⟨some x, none⟩

/-- FAMILY SET (R4, R5, R6). -/
def familySetBody (h : Held) (s : State) : Reply :=
  let p := h.frame.payload
  match idOf 4 (byteAt p 0) with
  | none => .refuse s .badValue
  | some f =>
    match settingsOf p with
    | none => .refuse s .badValue
    | some x =>
      match (s.family f).active with
      | none => .done (s.setFamily f (.activate x)) .ok (u8 f.val ++ u8 0)
      | some act =>
        if 0 < s.lotCount f ∧ x.layout ≠ act.layout then .refuse s .inUse
        else .done (s.setFamily f ⟨some act, some x⟩) .ok (u8 f.val ++ u8 1)

def execFamilySet (s : State) : Host.Outcome State Fault Refusal :=
  runCommand .familySet familySetBody s

/-- The payload of FAMILY GET (R10, R172); for an UNDEFINED family the pending indicator is absent
(log entry 13). -/
def familyPayload (s : State) (f : FamilyId) : List Byte :=
  match (s.family f).active with
  | none => u8 f.val ++ u8 0 ++ u8 0 ++ [0xFF]
  | some x => u8 f.val ++ u8 1 ++ u8 (s.lotCount f) ++ flag (s.family f).pending.isSome ++ x.bytes
      ++ match (s.family f).pending with
        | none => []
        | some y => y.bytes

/-- FAMILY GET (R10). -/
def familyGetBody (h : Held) (s : State) : Reply :=
  match idOf 4 (byteAt h.frame.payload 0) with
  | none => .refuse s .badValue
  | some f => .done s .ok (familyPayload s f)

def execFamilyGet (s : State) : Host.Outcome State Fault Refusal :=
  runCommand .familyGet familyGetBody s

/-! ### Promotion (R8) -/

/-- S and run remade for a plan: one element per entry, each S 0 and each run of length 0. -/
def freshParams (x : Settings) : List ParamState := List.replicate x.plan.length .fresh

/-- A lane under the promotion of a changed structure (R8). -/
def Lane.restructure (f : FamilyId) (x : Settings) (l : Lane) : Lane :=
  if l.state ≠ .vacant ∧ l.family = some f then { l with params := freshParams x } else l

/-- A cohort record under the promotion of a changed structure (R8): last centers absent, count 0,
last centered day kept. -/
def restructureCohort (f : FamilyId) (c : Option Cohort) : Option Cohort :=
  c.map fun x => if x.family = f then { x with centers := none, count := 0 } else x

/-- Promotion of one family's pending settings (R8). -/
def State.promote (s : State) (f : FamilyId) : State :=
  match (s.family f).pending with
  | none => s
  | some x =>
    let s' := s.setFamily f (.activate x)
    if ((s.family f).active.map Settings.layout) = some x.layout then s'
    else { s' with lanes := s'.lanes.map (Lane.restructure f x)
                   cohorts := s'.cohorts.map (restructureCohort f) }

/-- Promotion of every family's pending settings (R102). -/
def State.promoteAll (s : State) : State := (((s.promote 0).promote 1).promote 2).promote 3

/-! ### Lots -/

/-- Whether a strip entry is of a lot. -/
def StripEntry.ofLot (code : Nat) (e : StripEntry) : Bool := e.lot == code

/-- Whether a sheet holds an entry of a lot (R16): a FREE sheet holds none. -/
def Sheet.holdsLot (code : Nat) (sh : Sheet) : Bool :=
  sh.state != .free && sh.entries.cells.any fun e => e.any (StripEntry.ofLot code)

/-- The number of non-VACANT lanes with the lot as effective lot (R18). -/
def State.effectiveUsers (s : State) (code : Nat) : Nat :=
  s.lanes.cells.countP fun l => l.state != .vacant && l.effective == some code

/-- The number of non-VACANT lanes with the lot as pending lot (R18). -/
def State.pendingUsers (s : State) (code : Nat) : Nat :=
  s.lanes.cells.countP fun l => l.state != .vacant && l.pendingLot == some code

/-- Whether a live sheet holds an entry of the lot (R16). -/
def State.sheetHoldsLot (s : State) (code : Nat) : Bool := s.sheets.cells.any (Sheet.holdsLot code)

/-- Whether a lot is in use (R16, R18). -/
def State.lotInUse (s : State) (code : Nat) : Bool :=
  0 < s.effectiveUsers code || 0 < s.pendingUsers code || s.sheetHoldsLot code

/-- The aim-shift pairs of a LOT LOAD payload: parameter index and shift (R171). -/
def shiftPairs (p : List Byte) : List (Nat × Int) :=
  (List.range (byteAt p 4)).map fun i =>
    let off := 5 + 6 * byteAt p 3 + 3 * i
    (byteAt p off, intAt p (off + 1))

/-- R14 check 5: densities up to 4000, pairs of distinct plan indices with shifts in range. -/
def lotValuesOk (planSize : Nat) (published : List Nat) (pairs : List (Nat × Int)) : Bool :=
  published.all (· ≤ Config.maxDensity) &&
    pairs.all (fun q => decide (q.1 < planSize) && decide (-Config.maxShift ≤ q.2) &&
      decide (q.2 ≤ Config.maxShift)) &&
    decide (pairs.map (·.1)).Nodup

/-- The shift of each parameter: absent where no pair names it (R15). -/
def shiftList (planSize : Nat) (pairs : List (Nat × Int)) : List (Option Int) :=
  (List.range planSize).map fun i => (pairs.find? fun q => q.1 == i).map (·.2)

/-- A record placed in lot-code order (R11). -/
def insertLot (l : LotRecord) (ls : List LotRecord) : List LotRecord :=
  ls.filter (fun x => decide (x.code < l.code)) ++ [l] ++
    ls.filter (fun x => decide (l.code < x.code))

/-- LOT LOAD (R14, R15). -/
def lotLoadBody (h : Held) (s : State) : Reply :=
  let p := h.frame.payload
  let code := wordAt p 0
  match idOf 4 (byteAt p 2) with
  | none => .refuse s .badValue
  | some f =>
    if code = 0 then .refuse s .badValue
    else match (s.family f).active with
      | none => .refuse s .unknownFamily
      | some act =>
        if (s.family f).pending.any (fun x => x.layout != act.layout) then .refuse s .busy
        else if byteAt p 3 ≠ act.patchCount then .refuse s .layout
        else
          let published := wordsAt p 5 (byteAt p 3 * 3)
          let pairs := shiftPairs p
          if !lotValuesOk act.plan.length published pairs then .refuse s .badValue
          else if (s.findLot code).isSome then .refuse s .duplicate
          else if Config.maxLots ≤ s.lots.length then .refuse s .full
          else
            let shifts := shiftList act.plan.length pairs
            match lotAims act.plan published shifts with
            | none => .broken .shapeMismatch
            | some aims =>
              .done { s with lots := insertLot ⟨code, f, published, shifts, aims⟩ s.lots } .ok
                (u16 code ++ u8 aims.length ++ aims.flatMap i16)

def execLotLoad (s : State) : Host.Outcome State Fault Refusal := runCommand .lotLoad lotLoadBody s

/-- The lot table without a code. -/
def State.dropLot (s : State) (code : Nat) : State :=
  { s with lots := s.lots.filter fun l => l.code != code }

/-- LOT DROP (R17). -/
def lotDropBody (h : Held) (s : State) : Reply :=
  let code := wordAt h.frame.payload 0
  match s.findLot code with
  | none => .refuse s .unknownLot
  | some _ => if s.lotInUse code then .refuse s .inUse else .done (s.dropLot code) .ok []

def execLotDrop (s : State) : Host.Outcome State Fault Refusal := runCommand .lotDrop lotDropBody s

/-- The payload of LOT GET of a code (R18, R172). -/
def lotPayload (s : State) (l : LotRecord) : List Byte :=
  u16 l.code ++ u8 l.family.val ++ u8 (l.published.length / 3) ++ u8 l.aims.length
    ++ l.published.flatMap u16
    ++ (List.zip l.shifts l.aims).flatMap (fun q => optI16 q.1 ++ i16 q.2)
    ++ u8 (s.effectiveUsers l.code) ++ u8 (s.pendingUsers l.code) ++ flag (s.sheetHoldsLot l.code)

/-- The payload of LOT GET 0: the table's directory (R19, R172). -/
def lotDirectory (s : State) : List Byte :=
  u8 s.lots.length ++ s.lots.flatMap fun l => u16 l.code ++ u8 l.family.val

/-- LOT GET (R18, R19). -/
def lotGetBody (h : Held) (s : State) : Reply :=
  let code := wordAt h.frame.payload 0
  if code = 0 then .done s .ok (lotDirectory s)
  else match s.findLot code with
    | none => .refuse s .unknownLot
    | some l => .done s .ok (lotPayload s l)

def execLotGet (s : State) : Host.Outcome State Fault Refusal := runCommand .lotGet lotGetBody s

end Sys2Proof.Machine
end

