-- ==== Sys2Proof/Machine/Lanes.lean ====
section
/-! DEFINITION. LANE_ENROL, LANE_RETIRE, LOT_ASSIGN, LANE_SUSPEND, LANE_RESUME, READ_LANE (chapter 2). -/

namespace Sys2Proof.Machine

/-! ### LANE ENROL -/

/-- The VACANT slot of lowest number (R24). -/
def State.vacantSlot (s : State) : Option Slot := s.lanes.find fun l => l.state == .vacant

/-- The record of a new lane (R24). -/
def Lane.enrolled (id : Identity) (f : FamilyId) (x : Settings) : Lane :=
  { Lane.vacant with
    state := .enrolled
    identity := some id
    family := some f
    quiet := x.quietLimit
    dormancy := x.dormancyLimit
    params := freshParams x }

/-- The directory with an identity added, kept in slot order (R21, log entry 18). -/
def addIdentity (id : Identity) (i : Slot) (d : List (Identity × Slot)) : List (Identity × Slot) :=
  d.filter (fun e => decide (e.2 < i)) ++ [(id, i)] ++ d.filter (fun e => decide (i < e.2))

/-- The lane and its identity entered (R24). -/
def State.enrol (s : State) (i : Slot) (id : Identity) (f : FamilyId) (x : Settings) : State :=
  { s.setLane i (.enrolled id f x) with directory := addIdentity id i s.directory }

/-- LANE ENROL (R23, R24). -/
def laneEnrolBody (h : Held) (s : State) : Reply :=
  let p := h.frame.payload
  let id : Identity := ⟨wordAt p 0, byteAt p 2⟩
  match idOf 4 (byteAt p 3) with
  | none => .refuse s .badValue
  | some f =>
    if id.store = 0 ∨ 3 < id.processor then .refuse s .badValue
    else match (s.family f).active with
      | none => .refuse s .unknownFamily
      | some x =>
        if (s.findLane id).isSome then .refuse s .duplicate
        else match s.vacantSlot with
          | none => .refuse s .full
          | some i => .done (s.enrol i id f x) .ok (u8 i.val)

def execLaneEnrol (s : State) : Host.Outcome State Fault Refusal :=
  runCommand .laneEnrol laneEnrolBody s

/-! ### LANE RETIRE -/

/-- A cohort without a retired lane: out of the members, and the anchor absent when it was the
anchor (R26). -/
def Cohort.without (i : Slot) (c : Cohort) : Cohort :=
  { c with
    members := c.members.filter (· != i)
    mode := match c.mode with
      | .median q => .median q
      | .anchor a => .anchor (if a = some i then none else a) }

/-- The lane leaves its cohort's members (R26). -/
def State.leaveCohort (s : State) (i : Slot) : State :=
  match (s.lane i).cohort with
  | none => s
  | some c => s.setCohort c ((s.cohort c).map (Cohort.without i))

/-- A sheet without a retired lane's entry: OPEN and CLOSING sheets lose it (R26). -/
def Sheet.without (i : Slot) (sh : Sheet) : Sheet :=
  if sh.state = .opened ∨ sh.state = .closing then { sh with entries := sh.entries.set i none }
  else sh

/-- A queued REBUILD job of a lane is removed with the outcome CANCELLED (R26). -/
def State.cancelRebuildOf (s : State) (i : Slot) : State :=
  match s.findRebuild i with
  | none => s
  | some j => s.finishJob j .cancelled

/-- The directory without a slot (R21). -/
def State.forgetSlot (s : State) (i : Slot) : State :=
  { s with directory := s.directory.filter fun e => e.2 != i }

/-- LANE RETIRE's effect, in the order of R26. -/
def State.retire (s : State) (i : Slot) : State :=
  let s1 := ((s.forgetSlot i).leaveCohort i).removeSubject (.lane i)
  let s2 : State := { s1 with sheets := s1.sheets.map (Sheet.without i) }
  (s2.cancelRebuildOf i).setLane i .vacant

/-- LANE RETIRE (R22, R25, R26). -/
def laneRetireBody (h : Held) (s : State) : Reply :=
  match s.checkSlot (byteAt h.frame.payload 0) with
  | .error st => .refuse s st
  | .ok i => if s.dayRunning || s.rebuildRunning i then .refuse s .busy else .done (s.retire i) .ok []

def execLaneRetire (s : State) : Host.Outcome State Fault Refusal :=
  runCommand .laneRetire laneRetireBody s

/-! ### LOT ASSIGN -/

/-- LOT ASSIGN's effect and disposition code (R27, R170). -/
def Lane.assign (code : Nat) (l : Lane) : Lane × Nat :=
  if l.effective = some code then ({ l with pendingLot := none, pendOffsets := none }, 0)
  else if l.pendingLot = some code then (l, 1)
  else ({ l with pendingLot := some code, pendOffsets := none }, 2)

/-- LOT ASSIGN (R22, R27). -/
def lotAssignBody (h : Held) (s : State) : Reply :=
  match s.checkSlot (byteAt h.frame.payload 0) with
  | .error st => .refuse s st
  | .ok i =>
    let code := wordAt h.frame.payload 1
    match s.findLot code with
    | none => .refuse s .unknownLot
    | some lot =>
      if (s.lane i).family ≠ some lot.family then .refuse s .lotMismatch
      else
        let r := (s.lane i).assign code
        .done (s.setLane i r.1) .ok (u8 r.2 ++ opt16 r.1.effective ++ opt16 r.1.pendingLot)

def execLotAssign (s : State) : Host.Outcome State Fault Refusal :=
  runCommand .lotAssign lotAssignBody s

/-! ### LANE SUSPEND and LANE RESUME -/

/-- The lane SUSPENDED, the state it left recorded; unchanged when it is SUSPENDED (R33). -/
def Lane.suspend (l : Lane) : Lane :=
  if l.state = .suspended then l else { l with state := .suspended, suspendedFrom := some l.state }

/-- LANE SUSPEND (R22, R33). -/
def laneSuspendBody (h : Held) (s : State) : Reply :=
  match s.checkSlot (byteAt h.frame.payload 0) with
  | .error st => .refuse s st
  | .ok i =>
    let l := (s.lane i).suspend
    .done (s.setLane i l) .ok (opt8 (l.suspendedFrom.map LaneState.code))

def execLaneSuspend (s : State) : Host.Outcome State Fault Refusal :=
  runCommand .laneSuspend laneSuspendBody s

/-- Quiet and dormancy counters set to the limits (R142). -/
def Lane.reload (l : Lane) (x : Settings) : Lane :=
  { l with quiet := x.quietLimit, dormancy := x.dormancyLimit }

/-- LANE RESUME (R22, R35). -/
def laneResumeBody (h : Held) (s : State) : Reply :=
  match s.checkSlot (byteAt h.frame.payload 0) with
  | .error st => .refuse s st
  | .ok i =>
    let l := s.lane i
    if l.state ≠ .suspended then .refuse s .badValue
    else match l.suspendedFrom, s.laneSettings l with
      | none, _ => .broken .suspendedFromAbsent
      | some _, none => .broken .familyAbsent
      | some st, some x =>
        .done (s.setLane i (({ l with state := st, suspendedFrom := none } : Lane).reload x)) .ok
          (u8 st.code)

def execLaneResume (s : State) : Host.Outcome State Fault Refusal :=
  runCommand .laneResume laneResumeBody s

/-! ### READ LANE -/

/-- An offset set: presence, and the offsets when present (R172). -/
def offsetBytes : Option (List Int) → List Byte
  | none => flag false
  | some os => flag true ++ os.flatMap i16

/-- S, run sign and run length of a parameter (R172, R177). -/
def ParamState.bytes (x : ParamState) : List Byte :=
  i16 x.s ++ u8 x.run.sign.code ++ u8 x.run.length

/-- The payload of READ LANE for a VACANT slot: its slot, VACANT, every other field absent, n and P 0
(R38, R172). That the slot is sent, and that the two offset-presence bytes are 0 (R170: clear) and not the
0xFF of an absent single byte, is the model's reading, log entry 12: R38 names neither. -/
def vacantPayload (i : Slot) : List Byte :=
  u8 i.val ++ u8 0 ++ opt8 none ++ opt16 none ++ opt8 none ++ opt8 none ++ opt8 none
    ++ opt16 none ++ opt16 none ++ opt16 none ++ opt8 none ++ opt8 none ++ opt8 none ++ opt8 none
    ++ opt16 none ++ opt8 none ++ opt8 none ++ opt16 none ++ opt16 none ++ u8 0 ++ u8 0
    ++ offsetBytes none ++ offsetBytes none

/-- The payload of READ LANE for a lane (R38, R172). -/
def lanePayload (i : Slot) (l : Lane) (x : Settings) : List Byte :=
  u8 i.val ++ u8 l.state.code ++ opt8 (l.suspendedFrom.map LaneState.code)
    ++ opt16 (l.identity.map (·.store)) ++ opt8 (l.identity.map (·.processor))
    ++ opt8 (l.family.map (·.val)) ++ opt8 (l.cohort.map (·.val))
    ++ opt16 l.effective ++ opt16 l.effectiveSince ++ opt16 l.pendingLot
    ++ u8 l.settleRemaining ++ u8 l.quiet ++ u8 l.dormancy ++ u8 l.chart.code
    ++ opt16 l.lastApplied ++ opt8 (l.latestVerdict.map Verdict.code)
    ++ u8 l.history.length ++ opt16 (l.history.head?.map (·.day))
    ++ opt16 (l.history.getLast?.map (·.day)) ++ u8 x.patchCount ++ u8 l.params.length
    ++ offsetBytes l.effOffsets ++ offsetBytes l.pendOffsets ++ l.params.flatMap ParamState.bytes

/-- READ LANE of a slot (R38). -/
def readSlot (s : State) (i : Slot) : Reply :=
  let l := s.lane i
  if l.state = .vacant then .done s .ok (vacantPayload i)
  else match s.laneSettings l with
    | none => .broken .familyAbsent
    | some x => .done s .ok (lanePayload i l x)

/-- READ LANE (R38). -/
def readLaneBody (h : Held) (s : State) : Reply :=
  let p := h.frame.payload
  if byteAt p 0 = 0 then
    match idOf 128 (byteAt p 1) with
    | none => .refuse s .badValue
    | some i => readSlot s i
  else if byteAt p 0 = 1 then
    match s.findLane ⟨wordAt p 1, byteAt p 3⟩ with
    | none => .refuse s .unknownLane
    | some i => readSlot s i
  else .refuse s .badValue

def execReadLane (s : State) : Host.Outcome State Fault Refusal := runCommand .readLane readLaneBody s

end Sys2Proof.Machine
end

