-- ==== Sys2Proof/Machine/History.lean ====
section
/-! DEFINITION. READ_CHART and EXCLUDE_DAY (chapter 7, R176, R177). -/

namespace Sys2Proof.Machine

/-! ### READ CHART -/

/-- A value of 12 bits in two's complement (R176). -/
def twelve (x : Int) : Nat := (BitVec.ofInt 12 x).toNat

/-- One parameter result, 7 bytes (R176). -/
def ParamResult.bytes (r : ParamResult) : List Byte :=
  let de := twelve r.d * 4096 + twelve (r.e.getD 0)
  u8 ((if r.e.isSome then 128 else 0) + (if r.s.isSome then 64 else 0) + r.run.sign.code * 16
      + r.verdict.code)
    ++ u8 (de / 65536) ++ u16 de ++ i16 (r.s.getD 0) ++ u8 r.run.length

/-- A history entry as READ CHART returns it, 10 + 7 P bytes (R176). -/
def HistoryEntry.bytes (x : HistoryEntry) : List Byte :=
  match x.body with
  | .reading rerun notes results verdict =>
    u16 x.day ++ u8 0 ++ u16 x.lot ++ u8 rerun ++ u8 notes.code ++ flag x.excluded
      ++ u8 verdict.code ++ u8 results.length ++ results.flatMap ParamResult.bytes
  | .missing withdrawn =>
    u16 x.day ++ u8 1 ++ u16 x.lot ++ [0xFF] ++ u8 (if withdrawn then 1 else 0)
      ++ flag x.excluded ++ [0xFF] ++ u8 0

/-- The head of a READ CHART response, 8 + 4 P bytes, less its last byte (R134, R177). -/
def chartHead (i : Slot) (l : Lane) : List Byte :=
  u8 i.val ++ u8 l.state.code ++ u8 l.chart.code ++ opt16 l.effectiveSince ++ u8 l.history.length
    ++ u8 l.params.length ++ l.params.flatMap ParamState.bytes

/-- The page from a from-day: whole entries, oldest first, within the payload and the maximum count
(R134, R177). -/
def chartPage (l : Lane) (fromDay maxCount : Nat) : List HistoryEntry :=
  let entries := l.history.filter fun x => decide (fromDay ≤ x.day)
  takeFit (fun x => x.bytes.length) (Config.maxPayload - (8 + 4 * l.params.length) - 3)
    (if maxCount = 0 then entries.length else maxCount) entries

/-- The payload of READ CHART (R134, R177). -/
def chartPayload (i : Slot) (l : Lane) (fromDay maxCount : Nat) : List Byte :=
  let page := chartPage l fromDay maxCount
  let more := match page.getLast? with
    | none => none
    | some x => if l.history.any (fun y => decide (x.day < y.day)) then some (x.day + 1) else none
  chartHead i l ++ u8 page.length ++ page.flatMap HistoryEntry.bytes
    ++ flag more.isSome ++ opt16 more

/-- READ CHART (R22, R133 to R135). -/
def readChartBody (h : Held) (s : State) : Reply :=
  let p := h.frame.payload
  match s.checkSlot (byteAt p 0) with
  | .error st => .refuse s st
  | .ok i =>
    if 32 < byteAt p 3 then .refuse s .badValue
    else .done s .ok (chartPayload i (s.lane i) (wordAt p 1) (byteAt p 3))

def execReadChart (s : State) : Host.Outcome State Fault Refusal :=
  runCommand .readChart readChartBody s

/-! ### EXCLUDE DAY -/

/-- The excluded flag of the entry of a day. -/
def Lane.setExcluded (day : Nat) (flag : Bool) (l : Lane) : Lane :=
  { l with
    history := l.history.map fun x => if x.day = day then { x with excluded := flag } else x
    chart := .unsettled }

/-- Disposition, job id and queue of an EXCLUDE DAY that changes a flag (R125). -/
def queueExclusionRebuild (s : State) (i : Slot) : State × Nat × Nat :=
  match s.findRebuild i with
  | some j => (s, 1, j.id)
  | none =>
    if s.queue.length < Config.maxJobs then (s.joinJob (.rebuild i), 0, s.nextJobId) else (s, 2, 0)

/-- EXCLUDE DAY that changes a flag (R125). -/
def excludeEntry (s : State) (i : Slot) (day : Nat) (want : Bool) : Reply :=
  let r := queueExclusionRebuild (s.setLane i ((s.lane i).setExcluded day want)) i
  .done r.1 .ok (flag want ++ u8 Chart.unsettled.code ++ u8 r.2.1 ++ u16 r.2.2)

/-- EXCLUDE DAY (R22, R124, R125). -/
def excludeDayBody (h : Held) (s : State) : Reply :=
  let p := h.frame.payload
  let day := wordAt p 1
  match s.checkSlot (byteAt p 0) with
  | .error st => .refuse s st
  | .ok i =>
    match boolOf (byteAt p 3) with
    | none => .refuse s .badValue
    | some want =>
      if day = 0 then .refuse s .badValue
      else match (s.lane i).history.find? (fun x => x.day == day) with
        | none => .refuse s .notFound
        | some x =>
          if s.rebuildRunning i then .refuse s .busy
          else if x.excluded = want then
            .done s .ok (flag want ++ u8 (s.lane i).chart.code ++ u8 3 ++ u16 0)
          else excludeEntry s i day want

def execExcludeDay (s : State) : Host.Outcome State Fault Refusal :=
  runCommand .excludeDay excludeDayBody s

end Sys2Proof.Machine
end

