-- ==== Sys2Proof/Machine/Intake.lean ====
section
/-! DEFINITION. STRIP_READ, REFERENCE_READ, READ_SHEET_ENTRY, CLOSE_DAY (chapters 2 and 3). -/

namespace Sys2Proof.Machine

/-! ### STRIP READ -/

/-- Whether a lot is one of the lane's lots. -/
def Lane.hasLot (l : Lane) (code : Nat) : Bool :=
  l.effective == some code || l.pendingLot == some code

/-- The entry that an accepted read makes (R47, R48). -/
def intakeEntry (old : Option StripEntry) (code n : Nat) (reverse : Bool) (received : List Nat) :
    StripEntry where
  lot := code
  raw := (stripOrder reverse n received).map (min Config.maxDensity)
  rerun := match old with
    | none => 0
    | some e => min Config.maxRerun (e.rerun + 1)
  clamped := received.any (Config.maxDensity < ·)
  result := none

/-- An entry written into a sheet. -/
def State.setEntry (s : State) (k : SheetNo) (i : Slot) (e : StripEntry) : State :=
  s.setSheet k { s.sheet k with entries := (s.sheet k).entries.set i (some e) }

/-- STRIP READ checks 5 to 8 and its effect, for a read of a day of the window (R45 to R48). -/
def fileStrip (p : List Byte) (s : State) (i : Slot) (day : Nat) : Reply :=
  let l := s.lane i
  let code := wordAt p 5
  match s.findLot code with
  | none => .refuse s .unknownLot
  | some _ =>
    if l.state = .enrolled ∧ l.pendingLot = none then .refuse s .noLot
    else if !l.hasLot code then .refuse s .lotMismatch
    else match s.laneSettings l with
      | none => .broken .familyAbsent
      | some x =>
        if byteAt p 8 ≠ x.patchCount then .refuse s .layout
        else match boolOf (byteAt p 7) with
          | none => .refuse s .badValue
          | some rev =>
            match s.openSheet day with
            | none => .broken .sheetAbsent
            | some k =>
              let n := byteAt p 8
              let e := intakeEntry ((s.sheet k).entries.get i) code n rev (wordsAt p 9 (n * 3))
              .done (s.setEntry k i e) .ok (u8 i.val ++ u8 e.rerun ++ u8 (intakeNotes e.clamped))

/-- STRIP READ (R45 to R48). -/
def stripReadBody (h : Held) (s : State) : Reply :=
  let p := h.frame.payload
  let day := wordAt p 3
  match s.findLane ⟨wordAt p 0, byteAt p 2⟩ with
  | none => .refuse s .unknownLane
  | some i =>
    if (s.lane i).state = .suspended then .refuse s .suspended
    else match s.openDay with
      | none => .broken .openDayAbsent
      | some d =>
        if day < d then .refuse s .staleDay
        else if d + 1 < day then .refuse s .earlyDay
        else fileStrip p s i day

def execStripRead (s : State) : Host.Outcome State Fault Refusal :=
  runCommand .stripRead stripReadBody s

/-! ### REFERENCE READ -/

/-- The candidate offsets (R31): clamped measured densities less the published ones. -/
def candidateOffsets (n : Nat) (reverse : Bool) (received published : List Nat) : List Int :=
  List.zipWith (fun (m q : Nat) => (min Config.maxDensity m : Int) - (q : Int))
    (stripOrder reverse n received) published

/-- The largest magnitude among offsets. -/
def largestMagnitude (os : List Int) : Nat := os.foldl (fun m o => max m o.natAbs) 0

/-- The place in strip order of the first offset of largest magnitude (R31). -/
def worstOffset (os : List Int) : Nat := os.findIdx fun o => o.natAbs == largestMagnitude os

/-- Whether an offset may be stored (R29, R31). -/
def offsetOk (o : Int) : Bool := -Config.maxOffset ≤ o && o ≤ Config.maxOffset

/-- The lane with a set stored for its effective lot or for its pending lot, and the place code. -/
def Lane.storeOffsets (code : Nat) (os : List Int) (l : Lane) : Lane × Nat :=
  if l.effective = some code then ({ l with effOffsets := some os }, 0)
  else ({ l with pendOffsets := some os }, 1)

/-- R31 for a read that has passed R30. -/
def storeReference (p : List Byte) (s : State) (i : Slot) (x : Settings) (lot : LotRecord)
    (rev : Bool) : Reply :=
  let n := byteAt p 6
  let os := candidateOffsets n rev (wordsAt p 7 (n * 3)) lot.published
  if os.all offsetOk then
    let r := (s.lane i).storeOffsets lot.code os
    let l := if x.refActivity then r.1.reload x else r.1
    .done (s.setLane i l) .ok (u8 i.val ++ u8 r.2 ++ u8 n ++ os.flatMap i16)
  else
    let k := worstOffset os
    .done s .refRange (u8 (k / 3) ++ u8 (k % 3) ++ i16 (os.getD k 0))

/-- REFERENCE READ (R30, R31). -/
def referenceReadBody (h : Held) (s : State) : Reply :=
  let p := h.frame.payload
  match s.findLane ⟨wordAt p 0, byteAt p 2⟩ with
  | none => .refuse s .unknownLane
  | some i =>
    match s.findLot (wordAt p 3) with
    | none => .refuse s .unknownLot
    | some lot =>
      if !(s.lane i).hasLot lot.code then .refuse s .lotMismatch
      else match s.laneSettings (s.lane i) with
        | none => .broken .familyAbsent
        | some x =>
          if byteAt p 6 ≠ x.patchCount then .refuse s .layout
          else match boolOf (byteAt p 5) with
            | none => .refuse s .badValue
            | some rev => storeReference p s i x lot rev

def execReferenceRead (s : State) : Host.Outcome State Fault Refusal :=
  runCommand .referenceRead referenceReadBody s

/-! ### READ SHEET ENTRY -/

/-- READ SHEET ENTRY (R52). -/
def readSheetEntryBody (h : Held) (s : State) : Reply :=
  let p := h.frame.payload
  let day := wordAt p 3
  match s.findLane ⟨wordAt p 0, byteAt p 2⟩ with
  | none => .refuse s .unknownLane
  | some i =>
    match s.openDay with
    | none => .broken .openDayAbsent
    | some d =>
      if day < d then .refuse s .staleDay
      else if d + 1 < day then .refuse s .earlyDay
      else match s.openSheet day with
        | none => .broken .sheetAbsent
        | some k =>
          match (s.sheet k).entries.get i with
          | none => .done s .ok (u8 i.val ++ u16 day ++ flag false)
          | some e => .done s .ok (u8 i.val ++ u16 day ++ flag true ++ u16 e.lot ++ u8 e.rerun
              ++ u8 (intakeNotes e.clamped))

def execReadSheetEntry (s : State) : Host.Outcome State Fault Refusal :=
  runCommand .readSheetEntry readSheetEntryBody s

/-! ### CLOSE DAY -/

/-- Whether a sheet is CLOSING or EVALUATING (R53 check 3). -/
def Sheet.closed (sh : Sheet) : Bool := sh.state == .closing || sh.state == .evaluating

/-- The FREE sheet of lowest number (R53). -/
def State.freeSheet (s : State) : Option SheetNo := s.sheets.find fun sh => sh.state == .free

/-- CLOSE DAY's effect on the ring and the queue (R53, R100). -/
def State.closeDay (s : State) (d : Nat) (k free : SheetNo) : State :=
  let s1 := (s.setSheet k { s.sheet k with state := .closing }).setSheet free
    ⟨.opened, some (d + 2), Table.fill 128 none⟩
  ({ s1 with openDay := some (d + 1) } : State).joinJob (.day d)

/-- CLOSE DAY (R53). -/
def closeDayBody (h : Held) (s : State) : Reply :=
  let day := wordAt h.frame.payload 0
  if s.openDay ≠ some day then .refuse s .badValue
  else if Config.maxWord < day + 2 then .refuse s .badValue
  else if 2 ≤ s.sheets.cells.countP Sheet.closed then .refuse s .busy
  else if Config.maxJobs ≤ s.queue.length then .refuse s .full
  else match s.openSheet day, s.freeSheet with
    | some k, some free => .done (s.closeDay day k free) .queued (u16 s.nextJobId)
    | _, _ => .broken .sheetAbsent

def execCloseDay (s : State) : Host.Outcome State Fault Refusal := runCommand .closeDay closeDayBody s

end Sys2Proof.Machine
end

