-- ==== Sys2Proof/Machine/Power.lean ====
section
/-! DEFINITION. POWER_ON, WARM_RESET and RESET_RELEASE. -/

namespace Sys2Proof.Machine

/-- POWER_ON (R117 and the power-on value of every rule of chapters 1 to 11): State.reset. The queue
of waiting commands and the count of free values read are the model's own and stay. -/
def execPowerOn (s : State) : Host.Outcome State Fault Refusal :=
  .next { State.reset with pending := s.pending, fresh := s.fresh }

/-- A port at warm reset (R164, R158): buffers empty, a select period under way discarded, mode and
threshold kept, no owed pulse. -/
def PortState.warmReset (x : PortState) : PortState :=
  { x with
    period := if x.period = .idle then .idle else .discarded
    commands := []
    responses := []
    owed := 0
    pulsing := false }

/-- The chart of a lane whose REBUILD job is stopped (R132): UNSETTLED, S and run as they are. -/
def Lane.stopRebuild (l : Lane) : Lane := { l with chart := .unsettled }

/-- R115 step 1: the lane of a running REBUILD job becomes UNSETTLED. -/
def State.stopRunningRebuild (s : State) : State :=
  match s.running with
  | some (j, _) => match j.kind with
    | .rebuild i => s.setLane i (s.lane i).stopRebuild
    | .day _ => s
  | none => s

/-- A sheet at warm reset (R43): an EVALUATING sheet becomes CLOSING. -/
def Sheet.warmReset (sh : Sheet) : Sheet :=
  if sh.state = .evaluating then { sh with state := .closing } else sh

/-- The days of the CLOSING sheets in increasing order (R115 step 4). -/
def State.closingDays (s : State) : List Nat :=
  sortAscending (s.sheets.cells.filterMap fun sh => if sh.state = .closing then sh.day else none)

/-- Warm reset of the queue, the unit and the sheet ring (R115 steps 1 to 4). -/
def State.resetUnit (s : State) : State :=
  let s1 := s.stopRunningRebuild
  let s2 : State := { s1 with queue := [], finished := [] }
  let s3 : State := { s2 with sheets := s2.sheets.map Sheet.warmReset }
  s3.closingDays.foldl (fun t d => t.joinJob (.day d)) s3

/-- Warm reset of the ports, the arbiter and the executor (R164, R166, R168): a command whose effect
has not been made is discarded. -/
def State.resetLinks (s : State) : State :=
  { s with
    resetAsserted := true
    ports := s.ports.map PortState.warmReset
    arbiter := ⟨.a, s.config.allowances⟩
    executor := none }

/-- WARM_RESET (R115): RESET is asserted. Due while RESET is released. -/
def execWarmReset (s : State) : Host.Outcome State Fault Refusal :=
  if s.resetAsserted then .next s else .next s.resetUnit.resetLinks

/-- RESET_RELEASE (R115, R158, R164): the ports take frames again, a LEVEL line follows the kept
list again (State.atn), and the unit may start the head job. The arbiter chooses; no port holds a
frame. -/
def execResetRelease (s : State) : Host.Outcome State Fault Refusal :=
  if s.resetAsserted then .next ({ s with resetAsserted := false } : State).arbitrate else .next s

end Sys2Proof.Machine
end

