-- ==== Sys2Proof/Machine/Jobs.lean ====
section
/-! DEFINITION. REBUILD and CANCEL_JOB (chapter 6). -/

namespace Sys2Proof.Machine

/-- REBUILD (R22, R109). -/
def rebuildBody (h : Held) (s : State) : Reply :=
  match s.checkSlot (byteAt h.frame.payload 0) with
  | .error st => .refuse s st
  | .ok i =>
    if (s.lane i).state ≠ .settling ∧ (s.lane i).state ≠ .tracking then .refuse s .badValue
    else match s.findRebuild i with
      | some j => .done s .duplicate (u16 j.id)
      | none =>
        if Config.maxJobs ≤ s.queue.length then .refuse s .full
        else .done (s.joinJob (.rebuild i)) .queued (u16 s.nextJobId)

def execRebuild (s : State) : Host.Outcome State Fault Refusal := runCommand .rebuild rebuildBody s

/-- CANCEL JOB (R112, R132). -/
def cancelJobBody (h : Held) (s : State) : Reply :=
  match s.queue.find? (fun j => j.id == wordAt h.frame.payload 0) with
  | none => .refuse s .notFound
  | some j =>
    match j.kind with
    | .day _ => .refuse s .dayJob
    | .rebuild i =>
      match j.state with
      | .queued => .done (s.finishJob j .cancelled) .ok (u8 0)
      | .running _ =>
        .done ((s.setLane i (s.lane i).stopRebuild).finishJob j .aborted) .ok (u8 1)

def execCancelJob (s : State) : Host.Outcome State Fault Refusal :=
  runCommand .cancelJob cancelJobBody s

end Sys2Proof.Machine
end

