-- ==== Sys2Proof/Machine/Link.lean ====
section
/-! DEFINITION. The events of a link port: SELECT_ASSERT, RESPONSE_SENT, FRAME_ARRIVAL, LINK_CLEAR,
UNKNOWN_COMMAND, PULSE_START, PULSE_END (chapter 10, R157). -/

namespace Sys2Proof.Machine

/-- A port's select line. -/
def State.setPeriod (s : State) (p : Port) (x : Period) : State :=
  s.setPort p { s.port p with period := x }

/-- SELECT_ASSERT (R160): a select period begins; the port sends its oldest placed response when it
holds one. A period that begins while RESET is asserted is discarded (R164). -/
def execSelectAssert (p : Port) (s : State) : Host.Outcome State Fault Refusal :=
  match (s.port p).period with
  | .idle =>
    .next (s.setPeriod p
      (if s.resetAsserted then .discarded else .active (!(s.port p).responses.isEmpty)))
  | .active _ | .discarded => .next s

/-- RESPONSE_SENT (R160): the oldest response leaves the buffer, no other is begun in the period, and
the place it frees may make the port eligible (R167). -/
def execResponseSent (p : Port) (s : State) : Host.Outcome State Fault Refusal :=
  match (s.port p).period, (s.port p).responses with
  | .active true, _ :: rest =>
    .next (s.setPort p { s.port p with period := .active false, responses := rest }).arbitrate
  | _, _ => .next s

/-- LINK CLEAR (R165): the port's frames and placed responses are discarded and an OK is placed; a
reserved place is kept, and its response comes after the OK. -/
def State.clearLink (s : State) (p : Port) (tag : Byte) : State :=
  s.setPort p { s.port p with commands := [], responses := [⟨linkClearCode, tag, .ok, []⟩] }

/-- What the port does with what arrived (R162, R163). -/
def State.receive (s : State) (p : Port) : Arrival → State
  | .idle => s
  | .bad reason code tag =>
    if s.freePlace p then s.placeResponse p ⟨code, tag, .frameError, u8 reason.code⟩ else s
  | .good f =>
    if f.code = linkClearCode then s.clearLink p f.tag
    else if (s.port p).commands.length < Config.portPlaces then
      s.setPort p { s.port p with commands := (s.port p).commands ++ [f] }
    else if s.freePlace p then s.placeResponse p ⟨f.code, f.tag, .portFull, []⟩
    else s

/-- The end of a select period with what arrived in it (R159, R163, R167). A discarded period brings
no frame, and while RESET is asserted the ports take none (R164). -/
def State.arrive (s : State) (p : Port) (x : Arrival) : State :=
  match (s.port p).period with
  | .idle => s
  | .discarded => s.setPeriod p .idle
  | .active _ =>
    if s.resetAsserted then s.setPeriod p .idle
    else ((s.setPeriod p .idle).receive p x).arbitrate

/-- FRAME_ARRIVAL (R159). -/
def execFrameArrival (p : Port) (bytes : List Byte) (tail : List Bool) (s : State) :
    Host.Outcome State Fault Refusal :=
  .next (s.arrive p (classify bytes tail))

/-- LINK_CLEAR (R165): the frame that arrives is a good LINK CLEAR; its payload is ignored. -/
def execLinkClear (p : Port) (tag : Byte) (payload : List Byte) (s : State) :
    Host.Outcome State Fault Refusal :=
  .next (s.arrive p (.good ⟨linkClearCode, tag, payload⟩))

/-- UNKNOWN_COMMAND (R169, check 1): due when the executor holds a frame of an uncatalogued code. -/
def execUnknownCommand (s : State) : Host.Outcome State Fault Refusal :=
  match s.executor with
  | none => .next s
  | some h => if catalogued h.frame.code then .next s else .next (answer h .unknownCommand [] s)

/-- PULSE_START (R157): a PULSE port that owes a pulse and delivers none asserts ATN. -/
def execPulseStart (p : Port) (s : State) : Host.Outcome State Fault Refusal :=
  if (s.port p).mode = .pulse ∧ 0 < (s.port p).owed ∧ (s.port p).pulsing = false ∧
      s.resetAsserted = false then
    .next (s.setPort p { s.port p with pulsing := true })
  else .next s

/-- PULSE_END (R157): ATN is released and the owed pulses decrease by 1. -/
def execPulseEnd (p : Port) (s : State) : Host.Outcome State Fault Refusal :=
  if (s.port p).pulsing then
    .next (s.setPort p { s.port p with pulsing := false, owed := (s.port p).owed - 1 })
  else .next s

end Sys2Proof.Machine
end

