-- ==== Sys2Proof/Machine/DayJob.lean ====
section
/-! DEFINITION. The DAY job: DAY_JOB_START, DEVIATE_STEP, CENTER_STEP, APPLY_STEP, DAY_JOB_END
(chapters 4 to 8). -/

namespace Sys2Proof.Machine

/-! ### Start and end -/

/-- A sheet of a day in one state changed to another. -/
def Sheet.startDay (d : Nat) (sh : Sheet) : Sheet :=
  if sh.state = .closing ∧ sh.day = some d then { sh with state := .evaluating } else sh

/-- DAY_JOB_START's effect (R102, R42). -/
def State.startDayJob (s : State) (d : Nat) : State :=
  let s1 := s.promoteAll
  ({ s1 with sheets := s1.sheets.map (Sheet.startDay d) } : State).setStage (.deviate 0)

/-- DAY_JOB_START (R98, R102): due when the unit may start the head job and it is a DAY job. -/
def execDayJobStart (s : State) : Host.Outcome State Fault Refusal :=
  match s.startable with
  | none => .next s
  | some j => match j.kind with
    | .day d => .next (s.startDayJob d)
    | .rebuild _ => .next s

/-- The sheet of a finished DAY job becomes FREE (R42, R107). -/
def Sheet.endDay (d : Nat) (sh : Sheet) : Sheet :=
  if sh.state = .evaluating ∧ sh.day = some d then .blank else sh

/-- DAY_JOB_END (R107): due after the APPLY step of slot 127. -/
def execDayJobEnd (s : State) : Host.Outcome State Fault Refusal :=
  match s.stepping with
  | some (j, .applied) => match j.kind with
    | .day d => .next (({ s with sheets := s.sheets.map (Sheet.endDay d) } : State).finishJob j .done)
    | .rebuild _ => .next s
  | some (_, .deviate _) | some (_, .center _) | some (_, .apply _) | some (_, .replay _)
  | none => .next s

/-- The next number of a walk over a table of n records. -/
def succFin {n : Nat} (i : Fin n) : Option (Fin n) := if h : i.val + 1 < n then some ⟨i.val + 1, h⟩ else none

/-- The stage and position after a step of a DAY job (R98). -/
def Stage.next : Stage → Stage
  | .deviate i => match succFin i with
    | some k => .deviate k
    | none => .center 0
  | .center c => match succFin c with
    | some k => .center k
    | none => .apply 0
  | .apply i => match succFin i with
    | some k => .apply k
    | none => .applied
  | .applied => .applied
  | .replay n => .replay (n + 1)

/-! ### DEVIATE -/

/-- The lane's offsets for a lot (R29). -/
def Lane.offsetsFor (l : Lane) (code : Nat) : Option (List Int) :=
  if l.effective = some code then l.effOffsets
  else if l.pendingLot = some code then l.pendOffsets
  else none

/-- Raw densities less offsets, not yet clamped (R58); with no set every offset is 0 (R57). -/
def correct (raw : List Nat) (offsets : Option (List Int)) : List Int :=
  match offsets with
  | none => raw.map fun (x : Nat) => (x : Int)
  | some os => List.zipWith (fun (x : Nat) (o : Int) => (x : Int) - o) raw os

/-- Eligibility (R85). -/
def eligibleEntry (day : Nat) (l : Lane) (code : Nat) (refless : Bool) : Bool :=
  l.state == .tracking && l.effective == some code && !refless && l.cohort.isSome &&
    l.effectiveSince.any (· < day)

/-- DEVIATE's results for one entry (R57 to R61, R85), none where the densities lack a patch that the
plan names. -/
def deviateEntry (day : Nat) (l : Lane) (x : Settings) (lot : LotRecord) (e : StripEntry) :
    Option Deviated :=
  let offsets := l.offsetsFor e.lot
  let corrected := correct e.raw offsets
  let clamped := corrected.map clampDensity
  (planValues x.plan clamped).map fun values =>
    let diffs := List.zipWith (fun v aim => v - aim) values lot.aims
    let devs := diffs.map saturate
    { refless := offsets.isNone
      clamped := e.clamped || corrected != clamped
      saturated := diffs != devs
      devs := devs
      cohort := l.cohort
      eligible := eligibleEntry day l e.lot offsets.isNone }

/-- DEVIATE of one slot (R103): the sheet with the slot's entry deviated. -/
def deviateSlot (s : State) (day : Nat) (k : SheetNo) (i : Slot) : Except Fault State :=
  match (s.sheet k).entries.get i with
  | none => .ok s
  | some e =>
    match s.laneSettings (s.lane i), s.findLot e.lot with
    | none, _ => .error .familyAbsent
    | some _, none => .error .lotAbsent
    | some x, some lot =>
      match deviateEntry day (s.lane i) x lot e with
      | none => .error .shapeMismatch
      | some r => .ok (s.setSheet k
          { s.sheet k with entries := (s.sheet k).entries.set i (some { e with result := some r }) })

/-- A step of a job: its effect, then the next stage and position (R98, R99). -/
def stepTo (st : Stage) : Except Fault State → Host.Outcome State Fault Refusal
  | .error f => .fault f
  | .ok s => .next (s.setStage st)

/-- The day of a running DAY job. -/
def JobKind.day? : JobKind → Option Nat
  | .day d => some d
  | .rebuild _ => none

/-- DEVIATE_STEP (R103): due when the running job is a DAY job in the stage DEVIATE. -/
def execDeviateStep (s : State) : Host.Outcome State Fault Refusal :=
  match s.stepping with
  | some (j, .deviate i) => match j.kind.day? with
    | none => .next s
    | some d => match s.evaluatingSheet d with
      | none => .fault .sheetAbsent
      | some k => stepTo (Stage.deviate i).next (deviateSlot s d k i)
  | some (_, .center _) | some (_, .apply _) | some (_, .applied) | some (_, .replay _)
  | none => .next s

/-! ### CENTER -/

/-- The deviations of an entry that is recorded in a cohort and eligible. -/
def contribution (c : CohortId) (e : Option StripEntry) : Option (List Int) :=
  match e with
  | none => none
  | some x => match x.result with
    | none => none
    | some r => if r.cohort = some c ∧ r.eligible then some r.devs else none

/-- The contributors' deviations (R87). -/
def contributors (c : CohortId) (x : Cohort) (sh : Sheet) : List (List Int) :=
  match x.mode with
  | .median _ => sh.entries.cells.filterMap (contribution c)
  | .anchor none => []
  | .anchor (some a) => (contribution c (sh.entries.get a)).toList

/-- Whether the contributors are enough for a center (R88, R89). -/
def enough (x : Cohort) (n : Nat) : Bool :=
  match x.mode with
  | .median q => q ≤ n
  | .anchor _ => n == 1

/-- The center of one parameter (R88, R89): the median of one value is that value. -/
def centerOf (ds : List (List Int)) (i : Nat) : Option Int :=
  match allSome (ds.map fun d => d[i]?) with
  | none => none
  | some vs => median vs

/-- The centers of every parameter of a plan. -/
def centersOf (planSize : Nat) (ds : List (List Int)) : Option (List Int) :=
  allSome ((List.range planSize).map (centerOf ds))

/-- Whether a cohort's last centered day is equal to or later than a day (R90, R92). -/
def Cohort.centeredBy (x : Cohort) (day : Nat) : Bool := x.lastDay.any (day ≤ ·)

/-- A cohort record on a day without a center (R90). -/
def Cohort.noCenter (day : Nat) (x : Cohort) : Cohort :=
  if x.centeredBy day then { x with centers := none, count := 0 } else x

/-- The parameters in the COMMON condition (R92): the center's magnitude above W. -/
def commonParams (plan : List PlanEntry) (cs : List Int) : List Nat :=
  indicesWhere (List.zipWith (fun e c => decide (e.warn < c.natAbs)) plan cs)

/-- A center stored and the COMMON alert raised (R90, R92). -/
def State.storeCenter (s : State) (c : CohortId) (x : Cohort) (plan : List PlanEntry) (day count : Nat)
    (cs : List Int) : State :=
  let s' := s.setCohort c (some { x with lastDay := some day, centers := some cs, count := count })
  let ps := commonParams plan cs
  if x.centeredBy day ∨ ps = [] then s' else s'.raise ⟨.common, .cohort c, day, ps⟩

/-- CENTER of one cohort (R87 to R92). -/
def centerCohort (s : State) (day : Nat) (k : SheetNo) (c : CohortId) : Except Fault State :=
  match s.cohort c with
  | none => .ok s
  | some x =>
    match (s.family x.family).active with
    | none => .error .familyAbsent
    | some set =>
      let ds := contributors c x (s.sheet k)
      if enough x ds.length then
        match centersOf set.plan.length ds with
        | none => .error .shapeMismatch
        | some cs => .ok (s.storeCenter c x set.plan day ds.length cs)
      else .ok (s.setCohort c (some (x.noCenter day)))

/-- CENTER_STEP (R87, R104): due when the running job is a DAY job in the stage CENTER. -/
def execCenterStep (s : State) : Host.Outcome State Fault Refusal :=
  match s.stepping with
  | some (j, .center c) => match j.kind.day? with
    | none => .next s
    | some d => match s.evaluatingSheet d with
      | none => .fault .sheetAbsent
      | some k => stepTo (Stage.center c).next (centerCohort s d k c)
  | some (_, .deviate _) | some (_, .apply _) | some (_, .applied) | some (_, .replay _)
  | none => .next s

/-! ### APPLY: a day with a reading -/

/-- The lot switch (R36). -/
def Lane.switchLot (day : Nat) (x : Settings) (l : Lane) : Lane :=
  { l with
    effective := l.pendingLot
    pendingLot := none
    effOffsets := l.pendOffsets
    pendOffsets := none
    effectiveSince := some day
    params := l.params.map fun _ => ParamState.fresh
    settleRemaining := x.settleDays
    state := if 0 < x.settleDays then .settling else .tracking
    quiet := x.quietLimit
    dormancy := x.dormancyLimit }

/-- The centers of a cohort for a day: present exactly when its last centered day is the day and its
last centers are present (R90). -/
def Cohort.centersFor (day : Nat) (x : Cohort) : Option (List Int) :=
  if x.lastDay = some day then x.centers else none

/-- Whether a lane is a cohort's anchor. -/
def Cohort.isAnchor (x : Cohort) (i : Slot) : Bool :=
  match x.mode with
  | .median _ => false
  | .anchor a => a == some i

/-- The day's centers of the recorded cohort (R64). -/
def State.dayCenters (s : State) (day : Nat) (c : Option CohortId) : Option (List Int) :=
  c.bind fun i => (s.cohort i).bind (Cohort.centersFor day)

/-- Whether the lane is the anchor of the recorded cohort (R64, R91). -/
def State.anchors (s : State) (c : Option CohortId) (i : Slot) : Bool :=
  c.any fun k => (s.cohort k).any fun x => x.isAnchor i

/-- The centers removed from a lane (R64): those of its recorded cohort, unless it is the anchor. -/
def State.removedCenters (s : State) (day : Nat) (c : Option CohortId) (i : Slot) :
    Option (List Int) :=
  if s.anchors c i then none else s.dayCenters day c

/-- Evaluated deviations before saturation, none where no center applies (R64). -/
def rawEvaluated (ds : List Int) : Option (List Int) → List (Option Int)
  | none => ds.map fun _ => none
  | some cs => List.zipWith (fun d c => some (d - c)) ds cs

/-- One parameter of the arithmetic (R64 to R72): its result and its new chart state. -/
def applyParam (x : Settings) (sound tested : Bool) (entry : PlanEntry) (d : Int) (e : Option Int)
    (old : ParamState) : ParamResult × ParamState :=
  let used := e.getD d
  let new := if sound then old.update x.shift used else old
  (⟨d, e, if sound then some new.s else none, new.run,
    verdictOf entry x.runLimit tested used new⟩, new)

/-- The arithmetic over every parameter, in plan order. -/
def applyParams (x : Settings) (sound tested : Bool) :
    List PlanEntry → List Int → List (Option Int) → List ParamState →
      List (ParamResult × ParamState)
  | p :: ps, d :: ds, e :: es, o :: os =>
    applyParam x sound tested p d e o :: applyParams x sound tested ps ds es os
  | _, _, _, _ => []

/-- The settle countdown (R37). -/
def Lane.settleCountdown (day : Nat) (l : Lane) : Lane :=
  if l.state = .settling ∧ l.effectiveSince.any (· < day) then
    { l with
      settleRemaining := l.settleRemaining - 1
      state := if l.settleRemaining - 1 = 0 then .tracking else .settling }
  else l

/-- An entry appended to a history of at most 32; the oldest is removed first (R120). -/
def appendHistory (x : HistoryEntry) (l : List HistoryEntry) : List HistoryEntry :=
  (if Config.maxHistory ≤ l.length then l.drop 1 else l) ++ [x]

/-- The history entry of a reading (R75, R118). -/
def readingEntry (day : Nat) (l : Lane) (e : StripEntry) (r : Deviated) (switched noCenter esat : Bool)
    (results : List ParamResult) : HistoryEntry where
  day := day
  lot := e.lot
  excluded := false
  body := .reading e.rerun
    { refless := r.refless
      clamped := r.clamped
      saturated := r.saturated || esat
      noCenter := noCenter
      settling := l.state == .settling
      unsettled := l.chart == .unsettled
      lotSwitch := switched }
    results (worstVerdict (results.map (·.verdict)))

/-- The results and chart states of a reading: `l` is the lane after any switch (R63 to R72). -/
def State.readingResults (s : State) (day : Nat) (i : Slot) (l : Lane) (x : Settings) (r : Deviated) :
    List (ParamResult × ParamState) :=
  applyParams x (l.chart == .sound) (l.state == .tracking && l.chart == .sound) x.plan r.devs
    ((rawEvaluated r.devs (s.removedCenters day r.cohort i)).map (Option.map saturate)) l.params

/-- Whether saturation changed an evaluated deviation (R64). -/
def State.evaluatedSaturated (s : State) (day : Nat) (i : Slot) (r : Deviated) : Bool :=
  (rawEvaluated r.devs (s.removedCenters day r.cohort i)).any fun e => e.any fun v => v != saturate v

/-- Whether the day is noted NO_CENTER (R65): a recorded cohort without a center on the day. -/
def State.lacksCenter (s : State) (day : Nat) (r : Deviated) : Bool :=
  r.cohort.isSome && (s.dayCenters day r.cohort).isNone

/-- The lane after a reading (R66 to R73, R37, R120, R138), `l` being the lane after any switch. -/
def Lane.afterReading (day : Nat) (x : Settings) (entry : HistoryEntry)
    (rs : List (ParamResult × ParamState)) (l : Lane) : Lane :=
  ({ l with
      params := rs.map (·.2)
      latestVerdict := some (worstVerdict (rs.map (·.1.verdict)))
      quiet := x.quietLimit
      dormancy := x.dormancyLimit
      history := appendHistory entry l.history
      lastApplied := some day } : Lane).settleCountdown day

/-- The parameters with a verdict. -/
def paramsWith (v : Verdict) (rs : List (ParamResult × ParamState)) : List Nat :=
  indicesWhere (rs.map fun r => r.1.verdict == v)

/-- The alerts of a reading, in the order of R74. -/
def readingRaises (day : Nat) (i : Slot) (refless : Bool) (rs : List (ParamResult × ParamState)) :
    List Raise :=
  (if paramsWith .action rs = [] then [] else [⟨.action, .lane i, day, paramsWith .action rs⟩])
    ++ (if paramsWith .drift rs = [] then [] else [⟨.drift, .lane i, day, paramsWith .drift rs⟩])
    ++ (if refless then [⟨.refless, .lane i, day, []⟩] else [])

/-- Raises taken one after another (section 9.2). -/
def State.raiseAll (s : State) (rs : List Raise) : State := rs.foldl State.raise s

/-- APPLY of a reading (R106 steps 4, 6, 7, 8); `l` is the lane after any switch. -/
def applyReading (s : State) (day : Nat) (i : Slot) (l : Lane) (x : Settings) (e : StripEntry)
    (switched : Bool) : Except Fault State :=
  match e.result with
  | none => .error .resultAbsent
  | some r =>
    if l.chart = .rebuilding then .error .chartRebuilding
    else
      let rs := s.readingResults day i l x r
      let entry := readingEntry day l e r switched (s.lacksCenter day r)
        (s.evaluatedSaturated day i r) (rs.map (·.1))
      .ok ((s.setLane i (l.afterReading day x entry rs)).raiseAll
        (readingRaises day i r.refless rs))

/-! ### APPLY: a day without a reading -/

/-- The lane after the quiet and dormancy counting of a day without a reading, and the alert kinds it
raises (R139, R140). -/
def Lane.countQuiet (x : Settings) (l : Lane) : Lane × List AlertKind :=
  if x.quietLimit = 0 then (l, [])
  else if 0 < l.quiet then
    ({ l with quiet := l.quiet - 1 }, if l.quiet - 1 = 0 then [.missed] else [])
  else if x.dormancyLimit = 0 then (l, [])
  else if l.dormancy - 1 = 0 then
    ({ l with dormancy := 0, state := .suspended, suspendedFrom := some l.state }, [.dormant])
  else ({ l with dormancy := l.dormancy - 1 }, [])

/-- APPLY of a day without a reading (R106 steps 5 to 8, R137). -/
def applyMissing (s : State) (day : Nat) (i : Slot) (l : Lane) (x : Settings) (withdrawn : Bool) :
    Except Fault State :=
  if l.state = .settling ∨ l.state = .tracking then
    match l.effective with
    | none => .error .effectiveAbsent
    | some lot =>
      let r := l.countQuiet x
      .ok ((s.setLane i { r.1 with
          history := appendHistory ⟨day, lot, false, .missing withdrawn⟩ l.history
          lastApplied := some day }).raiseAll
        (r.2.map fun k => ⟨k, .lane i, day, []⟩))
  else .ok (s.setLane i { l with lastApplied := some day })

/-! ### APPLY: one slot -/

/-- Whether APPLY takes a lane (R105). -/
def takenByApply (l : Lane) (e : Option StripEntry) : Bool :=
  match l.state with
  | .vacant => false
  | .enrolled => e.isSome
  | .settling | .tracking | .suspended => true

/-- The lot check and what follows it (R106 steps 3 to 8). -/
def applyLots (s : State) (day : Nat) (i : Slot) (l : Lane) (x : Settings) (e : Option StripEntry) :
    Except Fault State :=
  match e with
  | none => applyMissing s day i l x false
  | some en =>
    if l.effective = some en.lot then applyReading s day i l x en false
    else if l.pendingLot = some en.lot then applyReading s day i (l.switchLot day x) x en true
    else applyMissing s day i l x true

/-- APPLY of one slot (R105, R106). -/
def applySlot (s : State) (day : Nat) (k : SheetNo) (i : Slot) : Except Fault State :=
  let l := s.lane i
  let e := (s.sheet k).entries.get i
  if !takenByApply l e then .ok s
  else if l.lastApplied.any (day ≤ ·) then .ok s
  else if l.state = .suspended then .ok s
  else match s.laneSettings l with
    | none => .error .familyAbsent
    | some x => applyLots s day i l x e

/-- APPLY_STEP (R105, R106): due when the running job is a DAY job in the stage APPLY. -/
def execApplyStep (s : State) : Host.Outcome State Fault Refusal :=
  match s.stepping with
  | some (j, .apply i) => match j.kind.day? with
    | none => .next s
    | some d => match s.evaluatingSheet d with
      | none => .fault .sheetAbsent
      | some k => stepTo (Stage.apply i).next (applySlot s d k i)
  | some (_, .deviate _) | some (_, .center _) | some (_, .applied) | some (_, .replay _)
  | none => .next s

end Sys2Proof.Machine
end

