-- ==== Sys2Proof/Machine/Rebuild.lean ====
section
/-! DEFINITION. The REBUILD job: REBUILD_START, REPLAY_STEP, REBUILD_END (chapters 6 and 7). -/

namespace Sys2Proof.Machine

/-- The lane at the start of its REBUILD job (R128). -/
def Lane.startRebuild (l : Lane) : Lane :=
  { l with chart := .rebuilding, params := l.params.map fun _ => ParamState.fresh }

/-- REBUILD_START (R98, R128): due when the unit may start the head job and it is a REBUILD job. -/
def execRebuildStart (s : State) : Host.Outcome State Fault Refusal :=
  match s.startable with
  | none => .next s
  | some j => match j.kind with
    | .day _ => .next s
    | .rebuild i => .next ((s.setLane i (s.lane i).startRebuild).setStage (.replay 0))

/-- The parameter results that a replay folds in, when the entry is selected (R128). -/
def Lane.selected (l : Lane) (x : HistoryEntry) : Option (List ParamResult) :=
  match x.body with
  | .missing _ => none
  | .reading _ _ results _ =>
    if l.effectiveSince.any (· ≤ x.day) ∧ x.excluded = false then some results else none

/-- The lane after the replay of one entry (R129). -/
def Lane.replay (k : Nat) (x : HistoryEntry) (l : Lane) : Lane :=
  match l.selected x with
  | none => l
  | some rs => { l with params := List.zipWith (fun o r => o.update k (r.e.getD r.d)) l.params rs }

/-- REPLAY of one history entry of a lane (R128, R129). -/
def replayEntry (s : State) (i : Slot) (x : HistoryEntry) : Except Fault State :=
  match s.laneSettings (s.lane i) with
  | none => .error .familyAbsent
  | some set => .ok (s.setLane i ((s.lane i).replay set.shift x))

/-- The lane of a running REBUILD job. -/
def JobKind.lane? : JobKind → Option Slot
  | .day _ => none
  | .rebuild i => some i

/-- REPLAY_STEP (R128, R129): due while the running REBUILD job has an entry to replay. -/
def execReplayStep (s : State) : Host.Outcome State Fault Refusal :=
  match s.stepping with
  | some (j, .replay n) => match j.kind.lane? with
    | none => .next s
    | some i => match (s.lane i).history[n]? with
      | none => .next s
      | some x => stepTo (Stage.replay n).next (replayEntry s i x)
  | some (_, .deviate _) | some (_, .center _) | some (_, .apply _) | some (_, .applied)
  | none => .next s

/-- REBUILD_END (R111, R131): due after the replay of the last history entry. -/
def execRebuildEnd (s : State) : Host.Outcome State Fault Refusal :=
  match s.stepping with
  | some (j, .replay n) => match j.kind.lane? with
    | none => .next s
    | some i =>
      if n < (s.lane i).history.length then .next s
      else .next ((s.setLane i { s.lane i with chart := .sound }).finishJob j .done)
  | some (_, .deviate _) | some (_, .center _) | some (_, .apply _) | some (_, .applied)
  | none => .next s

end Sys2Proof.Machine
end

