-- ==== Sys2Proof/Machine/Dispatch.lean ====
section
/-! DEFINITION. One arm for each command: its meaning. -/

namespace Sys2Proof.Machine

/-- The effect of a command on everything but the queue of waiting commands. -/
def exec (i : Instr) (s : State) : Host.Outcome State Fault Refusal :=
  match i with
  | .powerOn => Sys2Proof.Machine.execPowerOn s
  | .warmReset => Sys2Proof.Machine.execWarmReset s
  | .resetRelease => Sys2Proof.Machine.execResetRelease s
  | .selectAssert p => Sys2Proof.Machine.execSelectAssert p s
  | .responseSent p => Sys2Proof.Machine.execResponseSent p s
  | .frameArrival p bytes tail => Sys2Proof.Machine.execFrameArrival p bytes tail s
  | .unknownCommand => Sys2Proof.Machine.execUnknownCommand s
  | .linkClear p tag payload => Sys2Proof.Machine.execLinkClear p tag payload s
  | .identify => Sys2Proof.Machine.execIdentify s
  | .status => Sys2Proof.Machine.execStatus s
  | .configure => Sys2Proof.Machine.execConfigure s
  | .attentionSet => Sys2Proof.Machine.execAttentionSet s
  | .jobStatus => Sys2Proof.Machine.execJobStatus s
  | .familySet => Sys2Proof.Machine.execFamilySet s
  | .familyGet => Sys2Proof.Machine.execFamilyGet s
  | .lotLoad => Sys2Proof.Machine.execLotLoad s
  | .lotDrop => Sys2Proof.Machine.execLotDrop s
  | .lotGet => Sys2Proof.Machine.execLotGet s
  | .laneEnrol => Sys2Proof.Machine.execLaneEnrol s
  | .laneRetire => Sys2Proof.Machine.execLaneRetire s
  | .lotAssign => Sys2Proof.Machine.execLotAssign s
  | .laneSuspend => Sys2Proof.Machine.execLaneSuspend s
  | .laneResume => Sys2Proof.Machine.execLaneResume s
  | .readLane => Sys2Proof.Machine.execReadLane s
  | .cohortSet => Sys2Proof.Machine.execCohortSet s
  | .cohortDissolve => Sys2Proof.Machine.execCohortDissolve s
  | .readCohort => Sys2Proof.Machine.execReadCohort s
  | .stripRead => Sys2Proof.Machine.execStripRead s
  | .referenceRead => Sys2Proof.Machine.execReferenceRead s
  | .readSheetEntry => Sys2Proof.Machine.execReadSheetEntry s
  | .closeDay => Sys2Proof.Machine.execCloseDay s
  | .rebuild => Sys2Proof.Machine.execRebuild s
  | .cancelJob => Sys2Proof.Machine.execCancelJob s
  | .readChart => Sys2Proof.Machine.execReadChart s
  | .excludeDay => Sys2Proof.Machine.execExcludeDay s
  | .listAlerts => Sys2Proof.Machine.execListAlerts s
  | .ackAlert => Sys2Proof.Machine.execAckAlert s
  | .dayJobStart => Sys2Proof.Machine.execDayJobStart s
  | .deviateStep => Sys2Proof.Machine.execDeviateStep s
  | .centerStep => Sys2Proof.Machine.execCenterStep s
  | .applyStep => Sys2Proof.Machine.execApplyStep s
  | .dayJobEnd => Sys2Proof.Machine.execDayJobEnd s
  | .rebuildStart => Sys2Proof.Machine.execRebuildStart s
  | .replayStep => Sys2Proof.Machine.execReplayStep s
  | .rebuildEnd => Sys2Proof.Machine.execRebuildEnd s
  | .pulseStart p => Sys2Proof.Machine.execPulseStart p s
  | .pulseEnd p => Sys2Proof.Machine.execPulseEnd p s

end Sys2Proof.Machine
end

