-- ==== Sys2Proof/Safety.lean ====
section
/-! DEFINITION. What a lawful state is, in the terms the statements use: when a command is ready to
be performed, and the laws that the spec says hold of the tables at every moment. -/

namespace Sys2Proof.Machine

/-! ### A command ready to be performed -/

/-- The row of the table that performs a catalogued command. -/
def Command.instr : Command → Instr
  | .identify => .identify | .status => .status | .configure => .configure
  | .attentionSet => .attentionSet | .jobStatus => .jobStatus | .familySet => .familySet
  | .familyGet => .familyGet | .lotLoad => .lotLoad | .lotDrop => .lotDrop | .lotGet => .lotGet
  | .laneEnrol => .laneEnrol | .laneRetire => .laneRetire | .lotAssign => .lotAssign
  | .laneSuspend => .laneSuspend | .laneResume => .laneResume | .readLane => .readLane
  | .cohortSet => .cohortSet | .cohortDissolve => .cohortDissolve | .readCohort => .readCohort
  | .stripRead => .stripRead | .referenceRead => .referenceRead
  | .readSheetEntry => .readSheetEntry | .closeDay => .closeDay | .rebuild => .rebuild
  | .cancelJob => .cancelJob | .readChart => .readChart | .excludeDay => .excludeDay
  | .listAlerts => .listAlerts | .ackAlert => .ackAlert

/-- The executor holds a frame of the command. -/
abbrev State.Holds (s : State) (c : Command) (h : Held) : Prop :=
  s.executor = some h ∧ h.frame.code = c.code

/-- The executor holds a frame of the command, and the frame passes checks 2 to 4 of R169. -/
abbrev State.Ready (s : State) (c : Command) (h : Held) : Prop :=
  s.Holds c h ∧ (s.config.configured = true ∨ c.access = .anyPort) ∧
    (s.config.configured = true → c.access.allows (s.config.roles.get h.port) = true) ∧
    h.frame.payload.length = c.length h.frame.payload

/-- The running job is a DAY job of a day, at a stage and position, and the unit may take a step. -/
abbrev State.DayAt (s : State) (d : Nat) (st : Stage) : Prop :=
  s.resetAsserted = false ∧ ∃ j rest, s.queue = j :: rest ∧ j.kind = .day d ∧ j.state = .running st

/-- The running job is the REBUILD job of a slot with a number of entries replayed, and the unit may
take a step. -/
abbrev State.RebuildAt (s : State) (i : Slot) (n : Nat) : Prop :=
  s.resetAsserted = false ∧
    ∃ j rest, s.queue = j :: rest ∧ j.kind = .rebuild i ∧ j.state = .running (.replay n)

/-! ### Laws of the links (R157, R164, R166, R167, R115) -/

/-- One port: at most 4 frames, at most 4 placed or reserved places, attention settings in range, no
pulse owed outside PULSE, and a response under transmission is in the buffer. -/
structure PortLaw (s : State) (p : Port) : Prop where
  commands : (s.port p).commands.length ≤ 4
  responses : (s.port p).responses.length + s.reservedPlaces p ≤ 4
  threshold : 1 ≤ (s.port p).threshold ∧ (s.port p).threshold ≤ 3
  owed : (s.port p).owed ≤ 255
  quietOutsidePulse : (s.port p).mode ≠ .pulse → (s.port p).owed = 0 ∧ (s.port p).pulsing = false
  pulseOwed : (s.port p).pulsing = true → 0 < (s.port p).owed
  sending : (s.port p).period = .active true → (s.port p).responses ≠ []

/-- The links and the arbiter: every port lawful, every credit within its allowance, no eligible port
left waiting for a free executor, and everything empty and still while RESET is asserted. -/
structure LinkLaw (s : State) : Prop where
  port : ∀ p, PortLaw s p
  allowance : ∀ p, s.allowance p ≤ 15
  credit : ∀ p, s.credit p ≤ s.allowance p
  served : s.executor = none → s.resetAsserted = false → ∀ p, s.eligible p = false
  resetExecutor : s.resetAsserted = true → s.executor = none
  resetPort : s.resetAsserted = true → ∀ p, (s.port p).commands = [] ∧ (s.port p).responses = [] ∧
    (s.port p).owed = 0 ∧ (s.port p).pulsing = false ∧ ∀ b, (s.port p).period ≠ .active b

/-! ### Laws of the work queue and the finished list (R96 to R98, R101) -/

/-- A stage that a job of a kind can be in (R98). -/
def Stage.fits : Stage → JobKind → Bool
  | .deviate _, .day _ | .center _, .day _ | .apply _, .day _ | .applied, .day _ => true
  | .replay _, .rebuild _ => true
  | .deviate _, .rebuild _ | .center _, .rebuild _ | .apply _, .rebuild _ | .applied, .rebuild _ => false
  | .replay _, .day _ => false

/-- The work queue, the finished list and the job id counter. -/
structure QueueLaw (s : State) : Prop where
  jobs : s.queue.length ≤ 8
  finished : s.finished.length ≤ 8
  headAloneRuns : ∀ j ∈ s.queue.tail, j.state = .queued
  stageFits : ∀ j ∈ s.queue, ∀ st, j.state = .running st → st.fits j.kind = true
  oneRebuildPerLane : ∀ i, s.queue.countP (fun j => j.kind == .rebuild i) ≤ 1
  idsDistinct : s.heldJobIds.Nodup
  idsInRange : ∀ n ∈ s.heldJobIds, 1 ≤ n ∧ n ≤ 65535
  nextFree : s.nextJobId ∉ s.heldJobIds
  nextInRange : 1 ≤ s.nextJobId ∧ s.nextJobId ≤ 65535

/-! ### Laws of the sheet ring (R39, R40, R42, R96) -/

/-- The sheet ring and its DAY jobs: before configuration all FREE; afterwards exactly two OPEN sheets,
of D and D + 1, at most two CLOSING or EVALUATING ones, of days below D; a DAY job QUEUED for each
CLOSING sheet and RUNNING for an EVALUATING one; DAY jobs in increasing day order. -/
structure RingLaw (s : State) : Prop where
  unconfigured : s.config.configured = false → s.openDay = none
  closedUntilConfigured : s.openDay = none →
    s.config.configured = false ∧ (∀ k, s.sheet k = .blank) ∧ ∀ j ∈ s.queue, j.kind.day? = none
  freeIsBlank : ∀ k, (s.sheet k).state = .free → s.sheet k = .blank
  dayRange : ∀ d, s.openDay = some d → 1 ≤ d ∧ d ≤ 65534
  openSheets : ∀ d, s.openDay = some d → ∀ k, (s.sheet k).state = .opened →
    (s.sheet k).day = some d ∨ (s.sheet k).day = some (d + 1)
  openPresent : ∀ d, s.openDay = some d →
    (∃ k, (s.sheet k).state = .opened ∧ (s.sheet k).day = some d) ∧
      ∃ k, (s.sheet k).state = .opened ∧ (s.sheet k).day = some (d + 1)
  closedBelow : ∀ d, s.openDay = some d → ∀ k, (s.sheet k).closed = true →
    ∃ n, (s.sheet k).day = some n ∧ n < d
  daysDistinct : ∀ k m, (s.sheet k).state ≠ .free → (s.sheet k).day = (s.sheet m).day → k = m
  closedAtMostTwo : s.sheets.cells.countP Sheet.closed ≤ 2
  closingQueued : ∀ d, (∃ k, (s.sheet k).state = .closing ∧ (s.sheet k).day = some d) ↔
    ∃ j ∈ s.queue, j.kind = .day d ∧ j.state = .queued
  evaluatingRuns : ∀ d, (∃ k, (s.sheet k).state = .evaluating ∧ (s.sheet k).day = some d) ↔
    ∃ j ∈ s.queue, j.kind = .day d ∧ j.state ≠ .queued
  daysIncrease : (s.queue.filterMap fun j => j.kind.day?).Pairwise (· < ·)

/-! ### Laws of the lane table, the directory and the cohorts (R20, R21, R26, R78, R79) -/

/-- Lanes, directory and cohort membership say the same thing, and a REBUILD job names a lane. -/
structure LaneLaw (s : State) : Prop where
  vacant : ∀ i, (s.lane i).state = .vacant → s.lane i = .vacant
  named : ∀ i, (s.lane i).state ≠ .vacant →
    (s.lane i).identity.isSome = true ∧ (s.lane i).family.isSome = true
  suspendedFrom : ∀ i, (s.lane i).state = .suspended ↔ (s.lane i).suspendedFrom.isSome = true
  suspendedFromState : ∀ i st, (s.lane i).suspendedFrom = some st →
    st = .enrolled ∨ st = .settling ∨ st = .tracking
  directory : ∀ id i, (id, i) ∈ s.directory ↔ (s.lane i).identity = some id
  oneSlotPerIdentity : (s.directory.map (·.1)).Nodup
  slotsAscend : s.directory.Pairwise fun x y => x.2 < y.2
  membership : ∀ i c, (s.lane i).cohort = some c ↔ ∃ x, s.cohort c = some x ∧ i ∈ x.members
  membersAscend : ∀ c x, s.cohort c = some x → x.members.Pairwise (· < ·) ∧ x.members.length ≤ 16
  memberFamily : ∀ c x, s.cohort c = some x → ∀ i ∈ x.members, (s.lane i).family = some x.family
  anchorIsMember : ∀ c x a, s.cohort c = some x → x.mode = .anchor (some a) → a ∈ x.members
  rebuildNamesLane : ∀ j ∈ s.queue, ∀ i, j.kind = .rebuild i → (s.lane i).state ≠ .vacant

/-! ### Laws of the alert list (R146, R147, R151) -/

/-- At most 64 records, one for each subject and kind, each with its own serial; the next serial is
free; COMMON and only COMMON has a cohort as subject; an empty list has the indicator clear. -/
structure AlertLaw (s : State) : Prop where
  records : s.alerts.length ≤ 64
  onePerSubjectAndKind : (s.alerts.map fun a => (a.kind, a.subject)).Nodup
  serialsDistinct : (s.alerts.map (·.serial)).Nodup
  serialsInRange : ∀ a ∈ s.alerts, 1 ≤ a.serial ∧ a.serial ≤ 65535
  raisesInRange : ∀ a ∈ s.alerts, 1 ≤ a.raises ∧ a.raises ≤ 255
  subjectOfKind : ∀ a ∈ s.alerts, a.kind = .common ↔ ∃ c, a.subject = .cohort c
  nextFree : s.nextSerial ∉ s.alerts.map (·.serial)
  nextInRange : 1 ≤ s.nextSerial ∧ s.nextSerial ≤ 65535
  overflow : s.overflow = true → s.alerts ≠ []

/-! ### Bounds of the comparison (R76) -/

/-- Within -999..+999 mD. -/
abbrev InDeviationRange (x : Int) : Prop := -999 ≤ x ∧ x ≤ 999

/-- Within -15984..+15984 sixteenths of an mD. -/
abbrev InSmoothedRange (x : Int) : Prop := -15984 ≤ x ∧ x ≤ 15984

/-- A parameter result within its ranges (R118). -/
abbrev ParamResult.InRange (r : ParamResult) : Prop :=
  InDeviationRange r.d ∧ (∀ e, r.e = some e → InDeviationRange e) ∧
    (∀ v, r.s = some v → InSmoothedRange v) ∧ r.run.length ≤ 255

/-- Every quantity of the comparison that the device keeps lies within its range. -/
structure BoundsLaw (s : State) : Prop where
  deviations : ∀ k i e r, (s.sheet k).entries.get i = some e → e.result = some r →
    ∀ d ∈ r.devs, InDeviationRange d
  centers : ∀ c x cs, s.cohort c = some x → x.centers = some cs → ∀ v ∈ cs, InDeviationRange v
  charts : ∀ i, ∀ q ∈ (s.lane i).params, InSmoothedRange q.s ∧ q.run.length ≤ 255
  histories : ∀ i, ∀ x ∈ (s.lane i).history, ∀ n notes rs v,
    x.body = .reading n notes rs v → ∀ r ∈ rs, r.InRange

/-! ### Laws of families and lots (R1, R2, R4, R7, R11) -/

/-- A plan entry within the settings table of chapter 1, for a patch count. -/
def PlanEntry.InRange (patchCount : Nat) (e : PlanEntry) : Prop :=
  (1 ≤ e.warn ∧ e.warn ≤ 998) ∧ (e.warn < e.act ∧ e.act ≤ 999) ∧ (1 ≤ e.drift ∧ e.drift ≤ 999) ∧
    match e.shape with
    | .single a _ => a < patchCount
    | .diff a b _ => a < patchCount ∧ b < patchCount ∧ b ≠ a

/-- Settings within the settings table of chapter 1 (R4). -/
structure Settings.InRange (x : Settings) : Prop where
  patches : 2 ≤ x.patchCount ∧ x.patchCount ≤ 8
  planSize : 1 ≤ x.plan.length ∧ x.plan.length ≤ 12
  entries : ∀ e ∈ x.plan, e.InRange x.patchCount
  runLimit : 3 ≤ x.runLimit ∧ x.runLimit ≤ 15
  shift : 1 ≤ x.shift ∧ x.shift ≤ 3
  limits : x.settleDays ≤ 7 ∧ x.quietLimit ≤ 15 ∧ x.dormancyLimit ≤ 30

/-- An UNDEFINED family holds no settings (R1), and all settings held are in range (R4). -/
structure FamilyLaw (s : State) : Prop where
  undefined : ∀ f, (s.family f).active = none → (s.family f).pending = none
  active : ∀ f x, (s.family f).active = some x → x.InRange
  pending : ∀ f x, (s.family f).pending = some x → x.InRange

/-- The lot table (R11): at most 32 records in ascending order of distinct codes, each of a DEFINED
family, with one element for each patch and channel and for each plan entry, in range; and no change of
structure waits for a family that has lots (R4, R7). -/
structure LotLaw (s : State) : Prop where
  records : s.lots.length ≤ 32
  codesAscend : s.lots.Pairwise fun x y => x.code < y.code
  codeRange : ∀ l ∈ s.lots, 1 ≤ l.code ∧ l.code ≤ 65535
  shape : ∀ l ∈ s.lots, ∃ x, (s.family l.family).active = some x ∧
    l.published.length = 3 * x.patchCount ∧ l.shifts.length = x.plan.length ∧
    l.aims.length = x.plan.length
  densities : ∀ l ∈ s.lots, ∀ v ∈ l.published, v ≤ 4000
  shiftRange : ∀ l ∈ s.lots, ∀ v, some v ∈ l.shifts → -500 ≤ v ∧ v ≤ 500
  aimRange : ∀ l ∈ s.lots, ∀ v ∈ l.aims, -4500 ≤ v ∧ v ≤ 4500
  structureKept : ∀ l ∈ s.lots, ∀ x y, (s.family l.family).active = some x →
    (s.family l.family).pending = some y → y.layout = x.layout

/-! ### Laws of what a lane keeps (R29, R120, R122) -/

/-- A chart is REBUILDING exactly while the unit runs the lane's REBUILD job (R122), every reader offset
is within 150 mD (R29), and a history holds at most 32 entries, of strictly increasing days, none later
than the lane's last applied day (R120). -/
structure ChartLaw (s : State) : Prop where
  rebuilding : ∀ i, (s.lane i).chart = .rebuilding ↔ s.rebuildRunning i = true
  offsets : ∀ i os, (s.lane i).effOffsets = some os ∨ (s.lane i).pendOffsets = some os →
    ∀ o ∈ os, -150 ≤ o ∧ o ≤ 150
  historyLength : ∀ i, (s.lane i).history.length ≤ 32
  daysIncrease : ∀ i, (s.lane i).history.Pairwise fun x y => x.day < y.day
  applied : ∀ i, ∀ x ∈ (s.lane i).history, ∃ n, (s.lane i).lastApplied = some n ∧ x.day ≤ n

/-! ### Laws that join the records (R2, R16, R24, R29, R35, R78, R121) -/

/-- Lanes and cohorts belong to DEFINED families and keep one element for each entry of the family's
active plan; the lots that lanes and sheet entries name have records of the lane's family; offset sets and
raw densities have one element for each published density; a lane that is, or was before its suspension,
SETTLING or TRACKING has an effective lot, and so has a lane with a history. -/
structure RecordLaw (s : State) : Prop where
  laneFamily : ∀ i f, (s.lane i).family = some f → ∃ x, (s.family f).active = some x ∧
    (s.lane i).params.length = x.plan.length ∧
    ∀ h ∈ (s.lane i).history, ∀ rerun notes rs v, h.body = .reading rerun notes rs v →
      rs.length = x.plan.length
  laneLots : ∀ i c, (s.lane i).effective = some c ∨ (s.lane i).pendingLot = some c →
    ∃ l ∈ s.lots, l.code = c ∧ (s.lane i).family = some l.family
  effOffsets : ∀ i os, (s.lane i).effOffsets = some os →
    ∃ l ∈ s.lots, (s.lane i).effective = some l.code ∧ os.length = l.published.length
  pendOffsets : ∀ i os, (s.lane i).pendOffsets = some os →
    ∃ l ∈ s.lots, (s.lane i).pendingLot = some l.code ∧ os.length = l.published.length
  effective : ∀ i st, (s.lane i).state = st ∨ (s.lane i).suspendedFrom = some st →
    st = .settling ∨ st = .tracking → (s.lane i).effective.isSome = true
  history : ∀ i, (s.lane i).history ≠ [] → (s.lane i).effective.isSome = true
  cohort : ∀ c x, s.cohort c = some x → ∃ set, (s.family x.family).active = some set ∧
    (∀ cs, x.centers = some cs → cs.length = set.plan.length) ∧
    ∀ q, x.mode = .median q → 3 ≤ q ∧ q ≤ 16
  entry : ∀ k i e, (s.sheet k).entries.get i = some e →
    ∃ l ∈ s.lots, l.code = e.lot ∧ (s.lane i).family = some l.family ∧
      e.raw.length = l.published.length ∧ (∀ v ∈ e.raw, v ≤ 4000) ∧ e.rerun ≤ 15

/-! ### Law of the running DAY job (R61, R86, R103) -/

/-- Whether the DEVIATE stage has passed a slot when a job is at a stage. -/
def Stage.deviated (i : Slot) : Stage → Bool
  | .deviate k => decide (i < k)
  | .center _ | .apply _ | .applied => true
  | .replay _ => false

/-- Every entry of the running job's sheet that DEVIATE has passed holds its results: one deviation for
each entry of the plan, and the lane's cohort, which cannot change while the job runs (R86). -/
structure StageLaw (s : State) : Prop where
  deviated : ∀ j rest d st, s.queue = j :: rest → j.kind = .day d → j.state = .running st →
    ∀ k, (s.sheet k).state = .evaluating → (s.sheet k).day = some d →
    ∀ i e, (s.sheet k).entries.get i = some e → st.deviated i = true →
    ∃ r, e.result = some r ∧ r.cohort = (s.lane i).cohort ∧
      ∀ f x, (s.lane i).family = some f → (s.family f).active = some x →
        r.devs.length = x.plan.length

/-! ### A lawful state -/

/-- Every law holds. -/
structure Lawful (s : State) : Prop where
  link : LinkLaw s
  queue : QueueLaw s
  ring : RingLaw s
  lanes : LaneLaw s
  alerts : AlertLaw s
  bounds : BoundsLaw s
  families : FamilyLaw s
  lots : LotLaw s
  charts : ChartLaw s
  records : RecordLaw s
  stage : StageLaw s

/-! ### The next number of a counter (R97, R147) -/

/-- `m` is what a counter of 1..65535 holds after it has given `n`: the first number after `n`, with 1
after 65535, that is not held. -/
def FirstFreeAfter (held : List Nat) (n m : Nat) : Prop :=
  ∃ k, m = (n + k) % 65535 + 1 ∧ m ∉ held ∧ ∀ j, j < k → (n + j) % 65535 + 1 ∈ held

end Sys2Proof.Machine
end

