-- ==== Sys2Proof/Certificates/Slice0/Obligations.lean ====
section
/-! DEFINITION. The statements for the provers. -/

open Sys2Proof Sys2Proof.Machine

/-! ### The step, power and reset -/

/-- A step performs the command at the front of the queue on the state with the queue's rest. On the
empty queue the block idles: the model's choice, log entry 8. -/
def Obligations.StepTakesFrontCommand : Prop :=
  (∀ (c : Instr) (rest : List Instr) (s : State),
    step { s with pending := c :: rest } = exec c { s with pending := rest }) ∧
  ∀ s : State, s.pending = [] → step s = .next s

/-- A command's effect leaves the queue of waiting commands alone. -/
def Obligations.ExecKeepsWaitingCommands : Prop :=
  ∀ (c : Instr) (s t : State), exec c s = .next t → t.pending = s.pending

/-- POWER_ON empties every table, leaves the device unconfigured, gives the grant to A and releases
every RDY and ATN line (R1, R11, R20, R21, R39, R40, R78, R117, R146, R158, R164, R166, R178). -/
def Obligations.PowerOnEmptiesEverything : Prop :=
  ∀ s : State, ∃ t, exec .powerOn s = .next t ∧
    t.config.configured = false ∧ t.config.firstDay = none ∧ t.openDay = none ∧
    (∀ p, t.config.roles.get p = ⟨false, false, false⟩ ∧ t.allowance p = 0 ∧
      (t.port p).commands = [] ∧ (t.port p).responses = [] ∧ (t.port p).mode = .off ∧
      (t.port p).threshold = 1 ∧ (t.port p).owed = 0 ∧ (t.port p).pulsing = false ∧
      t.rdy p = false ∧ t.atn p = false) ∧
    t.arbiter.grant = .a ∧ t.executor = none ∧ (∀ f, t.family f = ⟨none, none⟩) ∧
    t.lots = [] ∧ t.directory = [] ∧ (∀ i, t.lane i = .vacant) ∧ (∀ k, t.sheet k = .blank) ∧
    (∀ c, t.cohort c = none) ∧ t.queue = [] ∧ t.nextJobId = 1 ∧ t.finished = [] ∧
    t.alerts = [] ∧ t.nextSerial = 1 ∧ t.overflow = false

/-- WARM_RESET (R43, R97, R115, R158, R164, R166): the ports are emptied, the executor discards its
command, the grant returns to A with full credits, the finished list is emptied, the queue holds one
QUEUED DAY job for each sheet that was CLOSING or EVALUATING, in day order, with the next ids in the order
of joining and no job else, a running REBUILD leaves its chart UNSETTLED, and everything else is kept. In
a lawful ring the days increase strictly: one job for each of them. -/
def Obligations.WarmResetEffect : Prop :=
  ∀ s : State, s.resetAsserted = false → ∃ (t : State) (days : List Nat),
    exec .warmReset s = .next t ∧
    t.resetAsserted = true ∧ t.executor = none ∧ t.arbiter = ⟨.a, s.config.allowances⟩ ∧
    (∀ p, (t.port p).commands = [] ∧ (t.port p).responses = [] ∧ (t.port p).owed = 0 ∧
      (t.port p).pulsing = false ∧ (t.port p).mode = (s.port p).mode ∧
      (t.port p).threshold = (s.port p).threshold ∧
      (t.port p).period = if (s.port p).period = .idle then .idle else .discarded) ∧
    t.finished = [] ∧
    days.Perm (s.sheets.cells.filterMap fun sh => if sh.closed then sh.day else none) ∧
    days.Pairwise (· ≤ ·) ∧ (RingLaw s → days.Pairwise (· < ·)) ∧
    (t.queue.map fun j => (j.kind, j.state)) =
      days.map (fun d => (JobKind.day d, JobState.queued)) ∧
    (1 ≤ s.nextJobId → s.nextJobId ≤ 65535 →
      t.queue.map (·.id) = (List.range days.length).map (fun n => (s.nextJobId - 1 + n) % 65535 + 1) ∧
      t.nextJobId = (s.nextJobId - 1 + days.length) % 65535 + 1) ∧
    (∀ k, t.sheet k = if (s.sheet k).state = .evaluating then { s.sheet k with state := .closing }
      else s.sheet k) ∧
    (∀ i, t.lane i = if s.rebuildRunning i then { s.lane i with chart := .unsettled }
      else s.lane i) ∧
    t.config = s.config ∧ t.families = s.families ∧ t.lots = s.lots ∧ t.directory = s.directory ∧
    t.cohorts = s.cohorts ∧ t.openDay = s.openDay ∧ t.alerts = s.alerts ∧
    t.nextSerial = s.nextSerial ∧ t.overflow = s.overflow

/-- While RESET is asserted the unit starts and steps nothing, a select period that begins is discarded,
one that ends brings no frame, LINK CLEAR included, and every ATN line is released; RESET_RELEASE ends
that and, with no frame waiting, changes nothing else: a discarded period goes on to its end (R115, R158,
R164). That a step not due leaves the whole state alone is the model's choice, log entry 3, and that a
held RESET acts once is its reading, log entry 11. -/
def Obligations.ResetHoldsTheBlock : Prop :=
  ∀ s : State, s.resetAsserted = true →
    (∀ c ∈ [Instr.dayJobStart, .deviateStep, .centerStep, .applyStep, .dayJobEnd, .rebuildStart,
      .replayStep, .rebuildEnd], exec c s = .next s) ∧
    exec .warmReset s = .next s ∧
    (∀ p, (s.port p).period = .idle →
      exec (.selectAssert p) s = .next (s.setPort p { s.port p with period := .discarded })) ∧
    (∀ p bytes tail, (s.port p).period ≠ .idle →
      exec (.frameArrival p bytes tail) s =
        .next (s.setPort p { s.port p with period := .idle })) ∧
    (∀ p tag payload, (s.port p).period ≠ .idle →
      exec (.linkClear p tag payload) s =
        .next (s.setPort p { s.port p with period := .idle })) ∧
    (∀ p, s.atn p = false) ∧
    ((∀ p, (s.port p).commands = []) →
      exec .resetRelease s = .next { s with resetAsserted := false })

/-! ### Ports, arbiter and executor -/

/-- SELECT_ASSERT begins to send the oldest placed response from its first byte, or 0xFF bytes;
RESPONSE_SENT removes it and begins no other; a period ended before that keeps it (R160). -/
def Obligations.SelectPeriodSendsOldestResponse : Prop :=
  ∀ (s : State) (p : Port), s.resetAsserted = false →
    ((s.port p).period = .idle → ∃ t, exec (.selectAssert p) s = .next t ∧
      t = s.setPort p { s.port p with period := .active (!(s.port p).responses.isEmpty) } ∧
      ∀ i, t.xdoByte p i = match (s.port p).responses with
        | [] => 0xFF
        | r :: _ => (frameBytes 0xC5 r.code r.tag r.status.code r.payload).getD i 0xFF) ∧
    (∀ r rest, (s.port p).period = .active true → (s.port p).responses = r :: rest →
      exec (.responseSent p) s = .next
        (s.setPort p { s.port p with period := .active false, responses := rest }).arbitrate) ∧
    ((s.port p).period = .active true → exec (.frameArrival p [] []) s =
      .next (s.setPort p { s.port p with period := .idle }).arbitrate)

/-- Every command frame that a master can build is read back as it was built, and nothing else is a
good frame (R161). -/
def Obligations.FrameEncodingRoundTrip : Prop :=
  ∀ (bytes : List Byte) (tail : List Bool) (f : Frame),
    classify bytes tail = .good f ↔
      tail = [] ∧ f.payload.length ≤ 1016 ∧ bytes = frameBytes 0x5C f.code f.tag 0 f.payload

/-- A period is idle exactly when every bit received was 1, the empty period included (R159); in every
other one the first failing check of R161 decides the reason of a bad frame; the CRC of the nine bytes 0x31
to 0x39 is 0x29B1. That the echoed code and tag are 0 below six whole bytes, whatever the reason, is the
model's reading of R162, log entry 14. -/
def Obligations.FrameChecksInOrder : Prop :=
  crc [0x31, 0x32, 0x33, 0x34, 0x35, 0x36, 0x37, 0x38, 0x39] = 0x29B1 ∧
  (∀ (bytes : List Byte) (tail : List Bool), classify bytes tail = .idle ↔
    (∀ b ∈ bytes, b = 0xFF) ∧ ∀ b ∈ tail, b = true) ∧
  ∀ (bytes : List Byte) (tail : List Bool), (∃ b ∈ bytes, b ≠ 0xFF) ∨ (∃ b ∈ tail, b = false) →
    let whole := 6 ≤ bytes.length
    let bad (r : BadReason) : Arrival :=
      .bad r (if whole then bytes.getD 1 0 else 0) (if whole then bytes.getD 2 0 else 0)
    let l := wordAt bytes 4
    classify bytes tail =
      if tail ≠ [] then bad .partialBits
      else if bytes.getD 0 0 ≠ 0x5C then bad .marker
      else if bytes.length < 8 ∨ 1016 < l ∨ bytes.length ≠ 8 + l then bad .length
      else if wordAt bytes (6 + l) ≠ (crc (bytes.take (6 + l))).toNat then bad .crc
      else if bytes.getD 3 0 ≠ 0 then bad .status
      else .good ⟨bytes.getD 1 0, bytes.getD 2 0, (bytes.drop 6).take l⟩

/-- FRAME_ARRIVAL (R159, R162, R163, R164): an idle period, every bit of it 1, brings nothing; a bad frame
a FRAME_ERROR, or nothing without a free place; a good frame joins the command buffer, or meets PORT_FULL,
or is dropped. A period that RESET has discarded ends without a frame, after the release of RESET too. -/
def Obligations.FrameArrivalOutcome : Prop :=
  (∀ (s : State) (p : Port) (bytes : List Byte) (tail : List Bool) (tag : Byte) (payload : List Byte),
    (s.port p).period = .discarded →
    exec (.frameArrival p bytes tail) s = .next (s.setPort p { s.port p with period := .idle }) ∧
    exec (.linkClear p tag payload) s = .next (s.setPort p { s.port p with period := .idle })) ∧
  ∀ (s : State) (p : Port) (bytes : List Byte) (tail : List Bool) (b : Bool),
    s.resetAsserted = false → (s.port p).period = .active b →
    let x := { s.port p with period := .idle }
    let respond (r : Response) : PortState :=
      if x.responses.length + s.reservedPlaces p < 4 then { x with responses := x.responses ++ [r] }
      else x
    ((∀ b ∈ bytes, b = 0xFF) → (∀ b ∈ tail, b = true) →
      exec (.frameArrival p bytes tail) s = .next (s.setPort p x).arbitrate) ∧
    (∀ reason code tag, classify bytes tail = .bad reason code tag →
      exec (.frameArrival p bytes tail) s =
        .next (s.setPort p (respond ⟨code, tag, .frameError, [BitVec.ofNat 8 reason.code]⟩)).arbitrate) ∧
    ∀ f, classify bytes tail = .good f → f.code ≠ 0x06 →
      exec (.frameArrival p bytes tail) s =
        .next (s.setPort p (if x.commands.length < 4 then { x with commands := x.commands ++ [f] }
          else respond ⟨f.code, f.tag, .portFull, []⟩)).arbitrate

/-- LINK_CLEAR (R165) is the arrival of its frame (the model's reading of the row, log entry 7): the port's frames and placed responses are
discarded, an OK is placed, and nothing else changes, the executor's command included. -/
def Obligations.LinkClearEffect : Prop :=
  ∀ (s : State) (p : Port) (tag : Byte) (payload : List Byte) (b : Bool),
    payload.length ≤ 1016 → s.resetAsserted = false → (s.port p).period = .active b →
    exec (.linkClear p tag payload) s =
      exec (.frameArrival p (frameBytes 0x5C 0x06 tag 0 payload) []) s ∧
    ((s.executor = none → ∀ q, q ≠ p → s.eligible q = false) →
      exec (.linkClear p tag payload) s = .next (s.setPort p { s.port p with
        period := .idle, commands := [], responses := [⟨0x06, tag, .ok, []⟩] }))

/-- UNKNOWN_COMMAND (R169, check 1). -/
def Obligations.UnknownCommandAnswered : Prop :=
  ∀ (s : State) (h : Held), s.executor = some h → h.frame.code ≠ 0x06 →
    (∀ c : Command, c.code ≠ h.frame.code) →
    exec .unknownCommand s = .next (answer h .unknownCommand [] s)

/-- The arbiter's choice when the executor is free, the other ports in the order A, B, C, A that follows
the granted one, and what a take does (R167, R168). -/
def Obligations.ArbiterChoosesByR167 : Prop :=
  (∀ s : State, s.executor = none → s.resetAsserted = false →
    let g := s.arbiter.grant
    let within := s.eligible g = true ∧ (s.allowance g = 0 ∨ 0 < s.credit g)
    (within → s.arbitrate = s.take g) ∧
    (¬ within → ∀ q r, (g, q, r) ∈ [(Port.a, Port.b, Port.c), (.b, .c, .a), (.c, .a, .b)] →
      (s.eligible q = true → s.arbitrate = ((s.reloadCredit g).setGrant q).take q) ∧
      (s.eligible q = false → s.eligible r = true →
        s.arbitrate = ((s.reloadCredit g).setGrant r).take r) ∧
      (s.eligible q = false → s.eligible r = false → s.eligible g = true →
        s.arbitrate = (s.reloadCredit g).take g) ∧
      (s.eligible q = false → s.eligible r = false → s.eligible g = false → s.arbitrate = s))) ∧
  ∀ (s : State) (p : Port) (f : Frame) (rest : List Frame), (s.port p).commands = f :: rest →
    (s.take p).executor = some ⟨p, f⟩ ∧ (s.take p).arbiter.grant = s.arbiter.grant ∧
    (∀ q, (s.take p).credit q =
      if q = p ∧ s.allowance p ≠ 0 then s.credit p - 1 else s.credit q) ∧
    ∀ q, (s.take p).port q = if q = p then { s.port p with commands := rest } else s.port q

/-- The executor places exactly one response, with the frame's code and tag, in the asking port's
buffer, and is free or holds the frame it takes next; nothing else changes (R168). -/
def Obligations.AnswerPlacesOneResponse : Prop :=
  ∀ (h : Held) (st : Status) (payload : List Byte) (s : State),
    let t := answer h st payload s
    (∃ ports arbiter executor,
      t = { s with ports := ports, arbiter := arbiter, executor := executor }) ∧
    (∀ p, (t.port p).responses = (s.port p).responses ++
        (if p = h.port then [⟨h.frame.code, h.frame.tag, st, payload⟩] else []) ∧
      (t.port p).period = (s.port p).period ∧ (t.port p).mode = (s.port p).mode ∧
      (t.port p).threshold = (s.port p).threshold ∧ (t.port p).owed = (s.port p).owed ∧
      (t.port p).pulsing = (s.port p).pulsing) ∧
    (t.executor = none → ∀ p, (t.port p).commands = (s.port p).commands) ∧
    ∀ n, t.executor = some n → (s.port n.port).commands = n.frame :: (t.port n.port).commands ∧
      ∀ p, p ≠ n.port → (t.port p).commands = (s.port p).commands

/-- Checks 2 to 4 of R169, in their order, for every command of the catalogue; a command whose frame
the executor does not hold changes nothing (the model's choice, log entry 3). -/
def Obligations.ExecutorChecksInOrder : Prop :=
  ∀ (c : Command) (s : State),
    (∀ h, s.Holds c h →
      (s.config.configured = false → c.access ≠ .anyPort →
        exec c.instr s = .next (answer h .notConfigured [] s)) ∧
      (s.config.configured = true → c.access.allows (s.config.roles.get h.port) = false →
        exec c.instr s = .next (answer h .role [] s)) ∧
      ((s.config.configured = true ∨ c.access = .anyPort) →
        (s.config.configured = true → c.access.allows (s.config.roles.get h.port) = true) →
        h.frame.payload.length ≠ c.length h.frame.payload →
        exec c.instr s = .next (answer h .badLength [] s))) ∧
    ((∀ h, s.executor = some h → h.frame.code ≠ c.code) → exec c.instr s = .next s)

/-- RDY follows the response buffer, ATN the mode, the kept list and the pulse; PULSE_START and
PULSE_END deliver one owed pulse (R157, R158, R164). -/
def Obligations.LinesAndPulses : Prop :=
  ∀ (s : State) (p : Port),
    (s.rdy p = true ↔ (s.port p).responses ≠ []) ∧
    (s.atn p = true ↔ s.resetAsserted = false ∧
      ((s.port p).mode = .level ∧ (∃ a ∈ s.alerts, (s.port p).threshold ≤ a.kind.severity) ∨
        (s.port p).mode = .pulse ∧ (s.port p).pulsing = true)) ∧
    (s.resetAsserted = false → (s.port p).mode = .pulse → 0 < (s.port p).owed →
      (s.port p).pulsing = false →
      exec (.pulseStart p) s = .next (s.setPort p { s.port p with pulsing := true })) ∧
    ((s.port p).pulsing = true →
      exec (.pulseEnd p) s =
        .next (s.setPort p { s.port p with pulsing := false, owed := (s.port p).owed - 1 }))

/-! ### The device -/

/-- IDENTIFY (R173). -/
def Obligations.IdentifyAnswer : Prop :=
  ∀ (s : State) (h : Held), s.executor = some h → h.frame.code = 0x01 → h.frame.payload = [] →
    exec .identify s = .next (answer h .ok
      ([0x4E, 0x42] ++ [0x01, 0x28] ++ [3] ++ [128, 16, 4, 32, 32, 8, 64]
        ++ [0x00, 0xFF, 0x0F, 0xF0, 0x55, 0xAA, 0x33, 0xCC]) s)

/-- STATUS (R174, R172). -/
def Obligations.StatusReport : Prop :=
  ∀ (s : State) (h : Held), s.Ready .status h →
    exec .status s = .next (answer h .ok
      (flag s.config.configured ++ u16 (s.openDay.getD 0)
        ++ ([0, 1, 2, 3] : List SheetNo).flatMap (fun k =>
          u8 (s.sheet k).state.code ++ u16 ((s.sheet k).day.getD 0))
        ++ u8 s.queue.length
        ++ (match s.running with
          | none => u16 0 ++ [0xFF]
          | some (j, _) => u16 j.id ++ match j.kind with
            | .day _ => [0]
            | .rebuild _ => [1])
        ++ u8 s.alerts.length ++ flag s.overflow ++ u8 (s.config.roles.get h.port).code) s)

/-- CONFIGURE (R180, R41). -/
def Obligations.ConfigureOutcome : Prop :=
  ∀ (s : State) (h : Held), s.Ready .configure h →
    let p := h.frame.payload
    let inRange := byteAt p 0 ≤ 7 ∧ byteAt p 1 ≤ 7 ∧ byteAt p 2 ≤ 7 ∧ byteAt p 3 ≤ 15 ∧
      byteAt p 4 ≤ 15 ∧ byteAt p 5 ≤ 15 ∧ 1 ≤ wordAt p 6 ∧ wordAt p 6 ≤ 65533
    let roles (i : Nat) : RoleSet :=
      ⟨(p.getD i 0).getLsbD 0, (p.getD i 0).getLsbD 1, (p.getD i 0).getLsbD 2⟩
    let own := match h.port with
      | .a => p.getD 0 0
      | .b => p.getD 1 0
      | .c => p.getD 2 0
    (s.config.configured = true → exec .configure s = .next (answer h .onceOnly [] s)) ∧
    (s.config.configured = false → ¬ inRange →
      exec .configure s = .next (answer h .badValue [] s)) ∧
    (s.config.configured = false → inRange →
      exec .configure s = .next (answer h .ok (u16 (wordAt p 6) ++ [own]) { s with
        config := ⟨true, ⟨roles 0, roles 1, roles 2⟩, ⟨byteAt p 3, byteAt p 4, byteAt p 5⟩,
          some (wordAt p 6)⟩
        arbiter := ⟨s.arbiter.grant, ⟨byteAt p 3, byteAt p 4, byteAt p 5⟩⟩
        openDay := some (wordAt p 6)
        sheets := (s.sheets.set 0 ⟨.opened, some (wordAt p 6), Table.fill 128 none⟩).set 1
          ⟨.opened, some (wordAt p 6 + 1), Table.fill 128 none⟩ }))

/-- ATTENTION_SET (R158). -/
def Obligations.AttentionSetOutcome : Prop :=
  ∀ (s : State) (h : Held), s.Ready .attentionSet h →
    let m := byteAt h.frame.payload 0
    let t := byteAt h.frame.payload 1
    (2 < m ∨ t < 1 ∨ 3 < t → exec .attentionSet s = .next (answer h .badValue [] s)) ∧
    (m ≤ 2 → 1 ≤ t → t ≤ 3 →
      exec .attentionSet s = .next (answer h .ok (u8 m ++ u8 t) (s.setPort h.port
        { s.port h.port with
          mode := if m = 0 then .off else if m = 1 then .level else .pulse
          threshold := t
          owed := 0
          pulsing := false })))

/-- JOB_STATUS (R114). The position of a DAY job that waits for its end is a free value: any byte
(log entry 10). -/
def Obligations.JobStatusOutcome : Prop :=
  ∀ (s : State) (h : Held), s.Ready .jobStatus h →
    let id := wordAt h.frame.payload 0
    let named (k : JobKind) : List Byte := u16 id ++ match k with
      | .day d => [0] ++ u16 d
      | .rebuild i => [1, 0] ++ u8 i.val
    (∀ ahead j behind, s.queue = ahead ++ j :: behind → j.id = id → (∀ x ∈ ahead, x.id ≠ id) →
      (j.state = .queued → exec .jobStatus s =
        .next (answer h .ok (named j.kind ++ [0] ++ u8 ahead.length ++ [0xFF]) s)) ∧
      (∀ i, j.state = .running (.deviate i) → exec .jobStatus s =
        .next (answer h .ok (named j.kind ++ [1, 0] ++ u8 i.val) s)) ∧
      (∀ c, j.state = .running (.center c) → exec .jobStatus s =
        .next (answer h .ok (named j.kind ++ [1, 1] ++ u8 c.val) s)) ∧
      (∀ i, j.state = .running (.apply i) → exec .jobStatus s =
        .next (answer h .ok (named j.kind ++ [1, 2] ++ u8 i.val) s)) ∧
      (j.state = .running .applied → ∃ b, exec .jobStatus s =
        .next (answer h .ok (named j.kind ++ [1, 2, b]) { s with fresh := s.fresh + 1 })) ∧
      (∀ n, j.state = .running (.replay n) → exec .jobStatus s =
        .next (answer h .ok (named j.kind ++ [1, 3] ++ u8 n) s))) ∧
    ((∀ j ∈ s.queue, j.id ≠ id) →
      (∀ before o after, s.finished = before ++ o :: after → o.id = id →
        (∀ x ∈ before, x.id ≠ id) → exec .jobStatus s =
          .next (answer h .ok (named o.kind ++ (match o.result with
            | .done => [2]
            | .cancelled => [3]
            | .aborted => [4] : List Byte) ++ [0xFF, 0xFF]) s)) ∧
      ((∀ o ∈ s.finished, o.id ≠ id) →
        exec .jobStatus s = .next (answer h .notFound [] s)))

/-! ### Families and lots -/

/-- When two structures are equal (R3). -/
def Obligations.SameStructure : Prop :=
  ∀ x y : Settings, x.layout = y.layout ↔
    x.patchCount = y.patchCount ∧ x.plan.length = y.plan.length ∧
    ∀ (i : Nat) (e f : PlanEntry), x.plan[i]? = some e → y.plan[i]? = some f →
      match e.shape, f.shape with
      | .single a c, .single a' c' => a = a' ∧ c = c'
      | .diff a b c, .diff a' b' c' => a = a' ∧ b = b' ∧ c = c'
      | .single _ _, .diff _ _ _ | .diff _ _ _, .single _ _ => False

/-- FAMILY_SET (R4, R5, R6): which settings are in range, and the outcome. -/
def Obligations.FamilySetOutcome : Prop :=
  (∀ p : List Byte, (∃ x, settingsOf p = some x) ↔
    2 ≤ byteAt p 1 ∧ byteAt p 1 ≤ 8 ∧ 3 ≤ byteAt p 2 ∧ byteAt p 2 ≤ 15 ∧ 1 ≤ byteAt p 3 ∧
    byteAt p 3 ≤ 3 ∧ byteAt p 4 ≤ 7 ∧ byteAt p 5 ≤ 15 ∧ byteAt p 6 ≤ 30 ∧ byteAt p 7 ≤ 1 ∧
    1 ≤ byteAt p 8 ∧ byteAt p 8 ≤ 12 ∧
    ∀ i, i < byteAt p 8 →
      let o := 9 + 10 * i
      (byteAt p o = 0 ∧ byteAt p (o + 2) = 0xFF ∨
        byteAt p o = 1 ∧ byteAt p (o + 2) < byteAt p 1 ∧ byteAt p (o + 2) ≠ byteAt p (o + 1)) ∧
      byteAt p (o + 1) < byteAt p 1 ∧ byteAt p (o + 3) ≤ 2 ∧
      1 ≤ wordAt p (o + 4) ∧ wordAt p (o + 4) ≤ 998 ∧
      wordAt p (o + 4) < wordAt p (o + 6) ∧ wordAt p (o + 6) ≤ 999 ∧
      1 ≤ wordAt p (o + 8) ∧ wordAt p (o + 8) ≤ 999) ∧
  ∀ (s : State) (h : Held), s.Ready .familySet h →
    let p := h.frame.payload
    (3 < byteAt p 0 ∨ settingsOf p = none →
      exec .familySet s = .next (answer h .badValue [] s)) ∧
    ∀ (f : FamilyId) (x : Settings), byteAt p 0 = f.val → settingsOf p = some x →
      ((s.family f).active = none →
        exec .familySet s = .next (answer h .ok (u8 f.val ++ [0]) (s.setFamily f ⟨some x, none⟩))) ∧
      ∀ act, (s.family f).active = some act →
        ((∃ l ∈ s.lots, l.family = f) → x.layout ≠ act.layout →
          exec .familySet s = .next (answer h .inUse [] s)) ∧
        ((∀ l ∈ s.lots, l.family ≠ f) ∨ x.layout = act.layout →
          exec .familySet s =
            .next (answer h .ok (u8 f.val ++ [1]) (s.setFamily f ⟨some act, some x⟩)))

/-- FAMILY_GET (R10) reports the settings in the layout in which FAMILY_SET supplied them (R171). The
0xFF of an UNDEFINED family is the model's reading, log entry 13. -/
def Obligations.FamilyGetReport : Prop :=
  (∀ (p : List Byte) (x : Settings), settingsOf p = some x → p.length = 9 + 10 * byteAt p 8 →
    x.bytes = p.drop 1) ∧
  ∀ (s : State) (h : Held), s.Ready .familyGet h →
    (3 < byteAt h.frame.payload 0 → exec .familyGet s = .next (answer h .badValue [] s)) ∧
    ∀ f : FamilyId, byteAt h.frame.payload 0 = f.val →
      ((s.family f).active = none →
        exec .familyGet s = .next (answer h .ok (u8 f.val ++ [0, 0, 0xFF]) s)) ∧
      ∀ x, (s.family f).active = some x → exec .familyGet s = .next (answer h .ok
        (u8 f.val ++ [1] ++ u8 (s.lots.countP fun l => l.family == f)
          ++ match (s.family f).pending with
            | none => [0] ++ x.bytes
            | some y => [1] ++ x.bytes ++ y.bytes) s)

/-- LOT_LOAD (R2, R12, R14, R15): the first failing check decides; an accepted lot is stored in code order
with one aim per plan entry, the plan's value on the published densities plus the shift. The value of a
SINGLE entry is the density of patch a in the entry's channel, that of a DIFF entry the density of patch a
less the density of patch b, and a plan gives one value per entry, in plan order (R2). -/
def Obligations.LotLoadOutcome : Prop :=
  (∀ (ds : List Int) (a b : Nat) (c : Channel),
    let density (patch : Nat) : Option Int := ds[3 * patch + match c with
      | .r => 0
      | .g => 1
      | .b => 2]?
    planValue ds (.single a c) = density a ∧
    ∀ x y, density a = some x → density b = some y → planValue ds (.diff a b c) = some (x - y)) ∧
  (∀ (plan : List PlanEntry) (ds vs : List Int), planValues plan ds = some vs ↔
    vs.length = plan.length ∧
      ∀ (i : Nat) (e : PlanEntry), plan[i]? = some e → planValue ds e.shape = vs[i]?) ∧
  ∀ (s : State) (h : Held), s.Ready .lotLoad h →
    let p := h.frame.payload
    let code := wordAt p 0
    let published := wordsAt p 5 (byteAt p 3 * 3)
    let pairs := shiftPairs p
    (code = 0 ∨ 3 < byteAt p 2 → exec .lotLoad s = .next (answer h .badValue [] s)) ∧
    ∀ f : FamilyId, code ≠ 0 → byteAt p 2 = f.val →
      ((s.family f).active = none → exec .lotLoad s = .next (answer h .unknownFamily [] s)) ∧
      ∀ act, (s.family f).active = some act →
        let waiting := ∃ y, (s.family f).pending = some y ∧ y.layout ≠ act.layout
        let valuesOk := (∀ x ∈ published, x ≤ 4000) ∧
          (∀ q ∈ pairs, q.1 < act.plan.length ∧ -500 ≤ q.2 ∧ q.2 ≤ 500) ∧ (pairs.map (·.1)).Nodup
        (waiting → exec .lotLoad s = .next (answer h .busy [] s)) ∧
        (¬ waiting → byteAt p 3 ≠ act.patchCount →
          exec .lotLoad s = .next (answer h .layout [] s)) ∧
        (¬ waiting → byteAt p 3 = act.patchCount →
          (¬ valuesOk → exec .lotLoad s = .next (answer h .badValue [] s)) ∧
          (valuesOk → (∃ l ∈ s.lots, l.code = code) →
            exec .lotLoad s = .next (answer h .duplicate [] s)) ∧
          (valuesOk → (∀ l ∈ s.lots, l.code ≠ code) →
            (32 ≤ s.lots.length → exec .lotLoad s = .next (answer h .full [] s)) ∧
            (s.lots.length < 32 → (∀ e ∈ act.plan, match e.shape with
                | .single a _ => a < act.patchCount
                | .diff a b _ => a < act.patchCount ∧ b < act.patchCount) →
              ∃ shifts aims : List (Option Int), shifts.length = act.plan.length ∧
                aims.length = act.plan.length ∧
                (∀ i, i < act.plan.length →
                  shifts[i]? = some ((pairs.find? fun q => q.1 == i).map (·.2))) ∧
                (∀ (i : Nat) (e : PlanEntry), act.plan[i]? = some e →
                  ∃ v, planValue (published.map fun (x : Nat) => (x : Int)) e.shape = some v ∧
                    aims[i]? = some (some (v + ((shifts[i]?.getD none).getD 0)))) ∧
                exec .lotLoad s = .next (answer h .ok
                  (u16 code ++ u8 act.plan.length ++ aims.flatMap fun a => i16 (a.getD 0))
                  { s with lots := s.lots.filter (fun l => decide (l.code < code))
                      ++ [⟨code, f, published, shifts, aims.map (·.getD 0)⟩]
                      ++ s.lots.filter (fun l => decide (code < l.code)) }))))

/-- LOT_DROP (R16, R17) and LOT_GET (R18, R19). -/
def Obligations.LotDropAndLotGetOutcome : Prop :=
  (∀ (s : State) (h : Held), s.Ready .lotDrop h →
    let code := wordAt h.frame.payload 0
    let inUse := (∃ i, (s.lane i).state ≠ .vacant ∧
        ((s.lane i).effective = some code ∨ (s.lane i).pendingLot = some code)) ∨
      ∃ k i e, (s.sheet k).state ≠ .free ∧ (s.sheet k).entries.get i = some e ∧ e.lot = code
    ((∀ l ∈ s.lots, l.code ≠ code) → exec .lotDrop s = .next (answer h .unknownLot [] s)) ∧
    ((∃ l ∈ s.lots, l.code = code) →
      (inUse → exec .lotDrop s = .next (answer h .inUse [] s)) ∧
      (¬ inUse → exec .lotDrop s =
        .next (answer h .ok [] { s with lots := s.lots.filter fun l => l.code != code })))) ∧
  ∀ (s : State) (h : Held), s.Ready .lotGet h →
    let code := wordAt h.frame.payload 0
    (code = 0 → exec .lotGet s = .next (answer h .ok
      (u8 s.lots.length ++ s.lots.flatMap fun l => u16 l.code ++ u8 l.family.val) s)) ∧
    (code ≠ 0 → (∀ l ∈ s.lots, l.code ≠ code) →
      exec .lotGet s = .next (answer h .unknownLot [] s)) ∧
    ∀ l, code ≠ 0 → s.findLot code = some l → exec .lotGet s = .next (answer h .ok
      (u16 code ++ u8 l.family.val ++ u8 (l.published.length / 3) ++ u8 l.aims.length
        ++ l.published.flatMap u16
        ++ (List.zip l.shifts l.aims).flatMap (fun q => (match q.1 with
          | none => [0, 0, 0]
          | some x => [1] ++ i16 x) ++ i16 q.2)
        ++ u8 (s.lanes.cells.countP fun l => l.state != .vacant && l.effective == some code)
        ++ u8 (s.lanes.cells.countP fun l => l.state != .vacant && l.pendingLot == some code)
        ++ flag (s.sheets.cells.any fun sh => sh.state != .free &&
          sh.entries.cells.any fun e => e.any fun x => x.lot == code)) s)

/-! ### Lanes -/

/-- LANE_ENROL (R23, R24): the lowest VACANT slot, with the record of R24. The directory is kept in slot
order: the model's choice, log entry 18. -/
def Obligations.LaneEnrolOutcome : Prop :=
  ∀ (s : State) (h : Held), s.Ready .laneEnrol h →
    let p := h.frame.payload
    let id : Identity := ⟨wordAt p 0, byteAt p 2⟩
    (id.store = 0 ∨ 3 < id.processor ∨ 3 < byteAt p 3 →
      exec .laneEnrol s = .next (answer h .badValue [] s)) ∧
    ∀ f : FamilyId, id.store ≠ 0 → id.processor ≤ 3 → byteAt p 3 = f.val →
      ((s.family f).active = none → exec .laneEnrol s = .next (answer h .unknownFamily [] s)) ∧
      ∀ x, (s.family f).active = some x →
        ((∃ i, (id, i) ∈ s.directory) → exec .laneEnrol s = .next (answer h .duplicate [] s)) ∧
        ((∀ i, (id, i) ∉ s.directory) →
          ((∀ i, (s.lane i).state ≠ .vacant) →
            exec .laneEnrol s = .next (answer h .full [] s)) ∧
          ∀ i, (s.lane i).state = .vacant → (∀ j, j < i → (s.lane j).state ≠ .vacant) →
            exec .laneEnrol s = .next (answer h .ok (u8 i.val) { s.setLane i
              { state := .enrolled, suspendedFrom := none, identity := some id, family := some f,
                cohort := none, effective := none, effectiveSince := none, pendingLot := none,
                effOffsets := none, pendOffsets := none, settleRemaining := 0,
                quiet := x.quietLimit, dormancy := x.dormancyLimit, chart := .sound,
                params := List.replicate x.plan.length ⟨0, ⟨.zero, 0⟩⟩, lastApplied := none,
                latestVerdict := none, history := [] } with
              directory := s.directory.filter (fun e => decide (e.2 < i)) ++ [(id, i)]
                ++ s.directory.filter (fun e => decide (i < e.2)) }))

/-- LANE_RETIRE (R22, R25, R26, R153): the slot checks, BUSY, and the removal of every trace. -/
def Obligations.LaneRetireOutcome : Prop :=
  ∀ (s : State) (h : Held), s.Ready .laneRetire h →
    let n := byteAt h.frame.payload 0
    (127 < n → exec .laneRetire s = .next (answer h .badValue [] s)) ∧
    ∀ i : Slot, n = i.val →
      ((s.lane i).state = .vacant → exec .laneRetire s = .next (answer h .unknownLane [] s)) ∧
      ((s.lane i).state ≠ .vacant → s.dayRunning = true ∨ s.rebuildRunning i = true →
        exec .laneRetire s = .next (answer h .busy [] s)) ∧
      ((s.lane i).state ≠ .vacant → s.dayRunning = false → s.rebuildRunning i = false →
        ∃ t, exec .laneRetire s = .next (answer h .ok [] t) ∧
          t.lane i = .vacant ∧ (∀ j, j ≠ i → t.lane j = s.lane j) ∧
          t.directory = s.directory.filter (fun e => e.2 != i) ∧
          (∀ c, t.cohort c = if (s.lane i).cohort = some c then
              (s.cohort c).map fun x => { x with
                members := x.members.filter (· != i)
                mode := if x.mode = .anchor (some i) then .anchor none else x.mode }
            else s.cohort c) ∧
          t.alerts = s.alerts.filter (fun a => a.subject != .lane i) ∧
          t.overflow = (s.overflow && !t.alerts.isEmpty) ∧ t.nextSerial = s.nextSerial ∧
          (∀ k, t.sheet k = if (s.sheet k).state = .opened ∨ (s.sheet k).state = .closing then
              { s.sheet k with entries := (s.sheet k).entries.set i none } else s.sheet k) ∧
          (match s.queue.find? fun j => j.kind == .rebuild i with
            | none => t.queue = s.queue ∧ t.finished = s.finished
            | some j => t.queue = s.queue.eraseP (fun x => x.id == j.id) ∧
                t.finished = addOutcome ⟨j.id, .rebuild i, .cancelled⟩ s.finished) ∧
          t.nextJobId = s.nextJobId ∧ t.lots = s.lots ∧ t.families = s.families ∧
          t.config = s.config ∧ t.openDay = s.openDay ∧ t.ports = s.ports ∧
          t.arbiter = s.arbiter ∧ t.executor = s.executor)

/-- LOT_ASSIGN (R22, R27). -/
def Obligations.LotAssignOutcome : Prop :=
  ∀ (s : State) (h : Held), s.Ready .lotAssign h →
    let n := byteAt h.frame.payload 0
    let code := wordAt h.frame.payload 1
    (127 < n → exec .lotAssign s = .next (answer h .badValue [] s)) ∧
    ∀ i : Slot, n = i.val →
      let l := s.lane i
      (l.state = .vacant → exec .lotAssign s = .next (answer h .unknownLane [] s)) ∧
      (l.state ≠ .vacant → s.findLot code = none →
        exec .lotAssign s = .next (answer h .unknownLot [] s)) ∧
      ∀ lot, l.state ≠ .vacant → s.findLot code = some lot →
        (l.family ≠ some lot.family →
          exec .lotAssign s = .next (answer h .lotMismatch [] s)) ∧
        (l.family = some lot.family → l.effective = some code → exec .lotAssign s =
          .next (answer h .ok ([0] ++ u16 code ++ u16 0)
            (s.setLane i { l with pendingLot := none, pendOffsets := none }))) ∧
        (l.family = some lot.family → l.effective ≠ some code → l.pendingLot = some code →
          exec .lotAssign s =
            .next (answer h .ok ([1] ++ u16 (l.effective.getD 0) ++ u16 code) (s.setLane i l))) ∧
        (l.family = some lot.family → l.effective ≠ some code → l.pendingLot ≠ some code →
          exec .lotAssign s = .next (answer h .ok ([2] ++ u16 (l.effective.getD 0) ++ u16 code)
            (s.setLane i { l with pendingLot := some code, pendOffsets := none })))

/-- LANE_SUSPEND (R22, R33) and LANE_RESUME (R22, R35, R142). -/
def Obligations.SuspendAndResumeOutcome : Prop :=
  (∀ (s : State) (h : Held), s.Ready .laneSuspend h →
    (127 < byteAt h.frame.payload 0 → exec .laneSuspend s = .next (answer h .badValue [] s)) ∧
    ∀ i : Slot, byteAt h.frame.payload 0 = i.val →
      let l := s.lane i
      (l.state = .vacant → exec .laneSuspend s = .next (answer h .unknownLane [] s)) ∧
      (l.state ≠ .vacant → l.state ≠ .suspended → exec .laneSuspend s =
        .next (answer h .ok (u8 l.state.code)
          (s.setLane i { l with state := .suspended, suspendedFrom := some l.state }))) ∧
      ∀ st, l.state = .suspended → l.suspendedFrom = some st →
        exec .laneSuspend s = .next (answer h .ok (u8 st.code) (s.setLane i l))) ∧
  ∀ (s : State) (h : Held), s.Ready .laneResume h →
    (127 < byteAt h.frame.payload 0 → exec .laneResume s = .next (answer h .badValue [] s)) ∧
    ∀ i : Slot, byteAt h.frame.payload 0 = i.val →
      let l := s.lane i
      (l.state = .vacant → exec .laneResume s = .next (answer h .unknownLane [] s)) ∧
      (l.state ≠ .vacant → l.state ≠ .suspended →
        exec .laneResume s = .next (answer h .badValue [] s)) ∧
      ∀ st f x, l.state = .suspended → l.suspendedFrom = some st → l.family = some f →
        (s.family f).active = some x → exec .laneResume s =
          .next (answer h .ok (u8 st.code) (s.setLane i { l with
            state := st, suspendedFrom := none, quiet := x.quietLimit,
            dormancy := x.dormancyLimit }))

/-- READ_LANE (R38, R172). That a VACANT slot's answer carries its slot number, and the bytes of the
absent fields after the state, are the model's reading, log entry 12. -/
def Obligations.ReadLaneReport : Prop :=
  ∀ (s : State) (h : Held), s.Ready .readLane h →
    let p := h.frame.payload
    let bySlot (i : Slot) := byteAt p 0 = 0 ∧ byteAt p 1 = i.val
    let byName (i : Slot) := byteAt p 0 = 1 ∧ s.findLane ⟨wordAt p 1, byteAt p 3⟩ = some i
    (1 < byteAt p 0 → exec .readLane s = .next (answer h .badValue [] s)) ∧
    (byteAt p 0 = 0 → 127 < byteAt p 1 → exec .readLane s = .next (answer h .badValue [] s)) ∧
    (byteAt p 0 = 1 → s.findLane ⟨wordAt p 1, byteAt p 3⟩ = none →
      exec .readLane s = .next (answer h .unknownLane [] s)) ∧
    ∀ i, bySlot i ∨ byName i →
      let l := s.lane i
      (l.state = .vacant → ∃ absent, exec .readLane s =
        .next (answer h .ok (u8 i.val ++ [0] ++ absent) s) ∧ absent.length = 28) ∧
      ∀ f x, l.state ≠ .vacant → l.family = some f → (s.family f).active = some x →
        exec .readLane s = .next (answer h .ok
          (u8 i.val ++ u8 l.state.code ++ opt8 (l.suspendedFrom.map LaneState.code)
            ++ opt16 (l.identity.map (·.store)) ++ opt8 (l.identity.map (·.processor))
            ++ u8 f.val ++ opt8 (l.cohort.map (·.val)) ++ opt16 l.effective
            ++ opt16 l.effectiveSince ++ opt16 l.pendingLot ++ u8 l.settleRemaining ++ u8 l.quiet
            ++ u8 l.dormancy ++ u8 l.chart.code ++ opt16 l.lastApplied
            ++ opt8 (l.latestVerdict.map Verdict.code) ++ u8 l.history.length
            ++ opt16 (l.history.head?.map (·.day)) ++ opt16 (l.history.getLast?.map (·.day))
            ++ u8 x.patchCount ++ u8 l.params.length
            ++ (match l.effOffsets with
              | none => [0]
              | some os => [1] ++ os.flatMap i16)
            ++ (match l.pendOffsets with
              | none => [0]
              | some os => [1] ++ os.flatMap i16)
            ++ l.params.flatMap (fun q => i16 q.s ++ u8 q.run.sign.code ++ u8 q.run.length)) s)

/-- REFERENCE_READ (R30, R31): the checks in order, then the candidate offsets, stored whole or
refused with the offset of largest magnitude, the earliest in strip order. -/
def Obligations.ReferenceReadOutcome : Prop :=
  ∀ (s : State) (h : Held), s.Ready .referenceRead h →
    let p := h.frame.payload
    let n := byteAt p 6
    let found := s.findLane ⟨wordAt p 0, byteAt p 2⟩
    let code := wordAt p 3
    (found = none → exec .referenceRead s = .next (answer h .unknownLane [] s)) ∧
    ∀ i, found = some i →
      let l := s.lane i
      (s.findLot code = none → exec .referenceRead s = .next (answer h .unknownLot [] s)) ∧
      ∀ lot, s.findLot code = some lot →
        (l.effective ≠ some code → l.pendingLot ≠ some code →
          exec .referenceRead s = .next (answer h .lotMismatch [] s)) ∧
        ∀ f x, l.effective = some code ∨ l.pendingLot = some code → l.family = some f →
          (s.family f).active = some x →
          (n ≠ x.patchCount → exec .referenceRead s = .next (answer h .layout [] s)) ∧
          (n = x.patchCount → 1 < byteAt p 5 →
            exec .referenceRead s = .next (answer h .badValue [] s)) ∧
          (n = x.patchCount → byteAt p 5 ≤ 1 →
            let measured := stripOrder (byteAt p 5 = 1) n (wordsAt p 7 (n * 3))
            let os := List.zipWith (fun (m q : Nat) => (min 4000 m : Int) - (q : Int))
              measured lot.published
            ((∀ o ∈ os, -150 ≤ o ∧ o ≤ 150) →
              let stored := if l.effective = some code then { l with effOffsets := some os }
                else { l with pendOffsets := some os }
              exec .referenceRead s = .next (answer h .ok
                (u8 i.val ++ [if l.effective = some code then 0 else 1] ++ u8 n ++ os.flatMap i16)
                (s.setLane i (if x.refActivity then
                  { stored with quiet := x.quietLimit, dormancy := x.dormancyLimit }
                  else stored)))) ∧
            ∀ k o, os[k]? = some o → ¬ (-150 ≤ o ∧ o ≤ 150) → (∀ q ∈ os, q.natAbs ≤ o.natAbs) →
              (∀ (j : Nat) (q : Int), j < k → os[j]? = some q → q.natAbs < o.natAbs) →
              exec .referenceRead s =
                .next (answer h .refRange (u8 (k / 3) ++ u8 (k % 3) ++ i16 o) s))

/-! ### Sheets -/

/-- STRIP_READ (R45 to R48): the checks in order, then the entry, in strip order and clamped, with the
rerun count. -/
def Obligations.StripReadOutcome : Prop :=
  (∀ (n : Nat) (ds : List Nat), ds.length = 3 * n → stripOrder false n ds = ds ∧
    ∀ i c, i < n → c < 3 → (stripOrder true n ds)[3 * i + c]? = ds[3 * (n - 1 - i) + c]?) ∧
  ∀ (s : State) (h : Held), s.Ready .stripRead h →
    let p := h.frame.payload
    let day := wordAt p 3
    let code := wordAt p 5
    let n := byteAt p 8
    let received := wordsAt p 9 (n * 3)
    let found := s.findLane ⟨wordAt p 0, byteAt p 2⟩
    (found = none → exec .stripRead s = .next (answer h .unknownLane [] s)) ∧
    ∀ i d, found = some i → s.openDay = some d →
      let l := s.lane i
      (l.state = .suspended → exec .stripRead s = .next (answer h .suspended [] s)) ∧
      (l.state ≠ .suspended → day < d → exec .stripRead s = .next (answer h .staleDay [] s)) ∧
      (l.state ≠ .suspended → d + 1 < day → exec .stripRead s = .next (answer h .earlyDay [] s)) ∧
      (l.state ≠ .suspended → d ≤ day → day ≤ d + 1 →
        (s.findLot code = none → exec .stripRead s = .next (answer h .unknownLot [] s)) ∧
        ∀ lot, s.findLot code = some lot →
          (l.state = .enrolled → l.pendingLot = none →
            exec .stripRead s = .next (answer h .noLot [] s)) ∧
          (¬ (l.state = .enrolled ∧ l.pendingLot = none) → l.effective ≠ some code →
            l.pendingLot ≠ some code → exec .stripRead s = .next (answer h .lotMismatch [] s)) ∧
          ∀ f x, ¬ (l.state = .enrolled ∧ l.pendingLot = none) →
            l.effective = some code ∨ l.pendingLot = some code → l.family = some f →
            (s.family f).active = some x →
            (n ≠ x.patchCount → exec .stripRead s = .next (answer h .layout [] s)) ∧
            (n = x.patchCount → 1 < byteAt p 7 →
              exec .stripRead s = .next (answer h .badValue [] s)) ∧
            ∀ k, n = x.patchCount → byteAt p 7 ≤ 1 → s.openSheet day = some k →
              let clamped := decide (∃ v ∈ received, 4000 < v)
              let rerun := match (s.sheet k).entries.get i with
                | none => 0
                | some e => min 15 (e.rerun + 1)
              let entry : StripEntry :=
                ⟨code, (stripOrder (byteAt p 7 = 1) n received).map (min 4000), rerun, clamped, none⟩
              exec .stripRead s = .next (answer h .ok
                (u8 i.val ++ u8 rerun ++ [if clamped then 64 else 0])
                (s.setSheet k { s.sheet k with
                  entries := (s.sheet k).entries.set i (some entry) })))

/-- READ_SHEET_ENTRY (R52). -/
def Obligations.ReadSheetEntryReport : Prop :=
  ∀ (s : State) (h : Held), s.Ready .readSheetEntry h →
    let p := h.frame.payload
    let day := wordAt p 3
    let found := s.findLane ⟨wordAt p 0, byteAt p 2⟩
    (found = none → exec .readSheetEntry s = .next (answer h .unknownLane [] s)) ∧
    ∀ i d, found = some i → s.openDay = some d →
      (day < d → exec .readSheetEntry s = .next (answer h .staleDay [] s)) ∧
      (d + 1 < day → exec .readSheetEntry s = .next (answer h .earlyDay [] s)) ∧
      ∀ k, d ≤ day → day ≤ d + 1 → s.openSheet day = some k →
        exec .readSheetEntry s = .next (answer h .ok (u8 i.val ++ u16 day ++
          match (s.sheet k).entries.get i with
          | none => [0]
          | some e => [1] ++ u16 e.lot ++ u8 e.rerun ++ [if e.clamped then 64 else 0]) s)

/-- CLOSE_DAY (R53, R100): the checks in order, then, in a lawful ring, the sheet of D CLOSING, the
lowest FREE sheet OPEN for D + 2, D + 1 the older open day, and a DAY job at the tail with the next id;
the id counter goes on to the next id that is not held (R97). -/
def Obligations.CloseDayOutcome : Prop :=
  ∀ (s : State) (h : Held), s.Ready .closeDay h →
    let day := wordAt h.frame.payload 0
    let closed := s.sheets.cells.countP Sheet.closed
    (s.openDay ≠ some day → exec .closeDay s = .next (answer h .badValue [] s)) ∧
    (s.openDay = some day →
      (65535 < day + 2 → exec .closeDay s = .next (answer h .badValue [] s)) ∧
      (day + 2 ≤ 65535 → 2 ≤ closed → exec .closeDay s = .next (answer h .busy [] s)) ∧
      (day + 2 ≤ 65535 → closed < 2 → 8 ≤ s.queue.length →
        exec .closeDay s = .next (answer h .full [] s)) ∧
      (day + 2 ≤ 65535 → closed < 2 → s.queue.length < 8 → RingLaw s →
        ∃ k free next, (QueueLaw s → FirstFreeAfter (s.nextJobId :: s.heldJobIds) s.nextJobId next) ∧
          (s.sheet k).state = .opened ∧ (s.sheet k).day = some day ∧
          (s.sheet free).state = .free ∧ (∀ m, m < free → (s.sheet m).state ≠ .free) ∧
          exec .closeDay s = .next (answer h .queued (u16 s.nextJobId) { s with
            sheets := (s.sheets.set k { s.sheet k with state := .closing }).set free
              ⟨.opened, some (day + 2), Table.fill 128 none⟩
            openDay := some (day + 1)
            queue := s.queue ++ [⟨s.nextJobId, .day day, .queued⟩]
            nextJobId := next })))

/-! ### Cohorts -/

/-- COHORT_SET (R80, R81): the checks on the operands, then on the members over the whole list in the
order supplied, then BUSY; the accepted record and both sides of the membership. -/
def Obligations.CohortSetOutcome : Prop :=
  ∀ (s : State) (h : Held), s.Ready .cohortSet h →
    let p := h.frame.payload
    let k := byteAt p 5
    let ns := (List.range k).map fun i => byteAt p (6 + i)
    let sound := byteAt p 0 ≤ 15 ∧ byteAt p 1 ≤ 3 ∧ 1 ≤ k ∧ k ≤ 16 ∧ (∀ n ∈ ns, n ≤ 127) ∧
      ns.Nodup ∧ (byteAt p 2 = 0 ∧ 3 ≤ byteAt p 3 ∧ byteAt p 3 ≤ 16 ∧ byteAt p 3 ≤ k ∨
        byteAt p 2 = 1 ∧ byteAt p 4 ∈ ns)
    (¬ sound → exec .cohortSet s = .next (answer h .badValue [] s)) ∧
    ∀ (c : CohortId) (f : FamilyId) (ms : List Slot), sound → byteAt p 0 = c.val →
      byteAt p 1 = f.val → ms.map (·.val) = ns →
      ((s.family f).active = none → exec .cohortSet s = .next (answer h .unknownFamily [] s)) ∧
      ((s.family f).active ≠ none →
        let refusal (good : Slot → Prop) (st : Status) := ∀ before i after,
          ms = before ++ i :: after → (∀ j ∈ before, good j) → ¬ good i →
          exec .cohortSet s = .next (answer h st (u8 i.val) s)
        let present (i : Slot) := (s.lane i).state ≠ .vacant
        let ofFamily (i : Slot) := (s.lane i).family = some f
        let unbound (i : Slot) := (s.lane i).cohort = none ∨ (s.lane i).cohort = some c
        refusal present .unknownLane ∧
        ((∀ i ∈ ms, present i) → refusal ofFamily .lotMismatch) ∧
        ((∀ i ∈ ms, present i) → (∀ i ∈ ms, ofFamily i) → refusal unbound .inUse) ∧
        ((∀ i ∈ ms, present i ∧ ofFamily i ∧ unbound i) →
          (s.dayRunning = true → exec .cohortSet s = .next (answer h .busy [] s)) ∧
          (s.dayRunning = false →
            let old := match s.cohort c with
              | none => []
              | some x => x.members
            ∃ t members, members.Pairwise (· ≤ ·) ∧ members.Perm ms ∧
              exec .cohortSet s = .next (answer h .ok (u8 c.val ++ u8 k
                ++ members.flatMap (fun i => u8 i.val)
                ++ u8 (old.countP fun i => !ms.contains i)) t) ∧
              t.cohort c = some ⟨f, if byteAt p 2 = 0 then .median (byteAt p 3)
                else .anchor (ms.find? fun i => i.val == byteAt p 4), members, none, none, 0⟩ ∧
              (∀ d, d ≠ c → t.cohort d = s.cohort d) ∧
              (∀ i, t.lane i = if i ∈ ms then { s.lane i with cohort := some c }
                else if i ∈ old then { s.lane i with cohort := none } else s.lane i) ∧
              ∃ lanes cohorts, t = { s with lanes := lanes, cohorts := cohorts })))

/-- COHORT_DISSOLVE (R83, R153) and READ_COHORT (R84, R172). The bytes of the absent fields of a FREE
cohort are the model's reading, log entry 13. -/
def Obligations.CohortDissolveAndReadOutcome : Prop :=
  (∀ (s : State) (h : Held), s.Ready .cohortDissolve h →
    (15 < byteAt h.frame.payload 0 →
      exec .cohortDissolve s = .next (answer h .badValue [] s)) ∧
    ∀ c : CohortId, byteAt h.frame.payload 0 = c.val →
      (s.cohort c = none → exec .cohortDissolve s = .next (answer h .unknownCohort [] s)) ∧
      ∀ x, s.cohort c = some x →
        (s.dayRunning = true → exec .cohortDissolve s = .next (answer h .busy [] s)) ∧
        (s.dayRunning = false → ∃ t,
          exec .cohortDissolve s = .next (answer h .ok (u8 x.members.length) t) ∧
          (∀ d, t.cohort d = if d = c then none else s.cohort d) ∧
          (∀ i, t.lane i =
            if i ∈ x.members then { s.lane i with cohort := none } else s.lane i) ∧
          t.alerts = s.alerts.filter (fun a => a.subject != .cohort c) ∧
          t.overflow = (s.overflow && !t.alerts.isEmpty) ∧
          ∃ lanes cohorts alerts overflow, t = { s with
            lanes := lanes, cohorts := cohorts, alerts := alerts, overflow := overflow })) ∧
  ∀ (s : State) (h : Held), s.Ready .readCohort h →
    (15 < byteAt h.frame.payload 0 → exec .readCohort s = .next (answer h .badValue [] s)) ∧
    ∀ c : CohortId, byteAt h.frame.payload 0 = c.val →
      (s.cohort c = none → ∃ absent, absent.length = 9 ∧
        exec .readCohort s = .next (answer h .ok (u8 c.val ++ [0] ++ absent) s)) ∧
      ∀ x set, s.cohort c = some x → (s.family x.family).active = some set →
        exec .readCohort s = .next (answer h .ok
          (u8 c.val ++ [1] ++ u8 x.family.val ++ (match x.mode with
            | .median q => [0] ++ u8 q ++ [0xFF]
            | .anchor none => [1, 0xFF, 0xFF]
            | .anchor (some a) => [1, 0xFF] ++ u8 a.val)
          ++ opt16 x.lastDay ++ u8 x.count ++ u8 x.members.length
          ++ x.members.flatMap (fun i => u8 i.val)
          ++ match x.centers with
            | none => u8 set.plan.length ++ (List.replicate set.plan.length [0, 0, 0]).flatten
            | some cs => u8 cs.length ++ cs.flatMap fun v => [1] ++ i16 v) s)

/-- Every center lies between the smallest and the largest contribution to its parameter; an ANCHOR
center is the anchor's deviation; contributions within -999..+999 give such a center (R94). The value of
R88, on the contributions in ascending order: for an odd count the middle one, for an even count half the
sum of the two middle ones, rounded toward zero. -/
def Obligations.CenterLiesAmongContributors : Prop :=
  (∀ (vs : List Int) (c : Int), median vs = some c →
    (∃ lo ∈ vs, lo ≤ c) ∧ (∃ hi ∈ vs, c ≤ hi) ∧ (vs.length % 2 = 1 → c ∈ vs) ∧
    (∀ sorted : List Int, sorted.Perm vs → sorted.Pairwise (· ≤ ·) →
      (vs.length % 2 = 1 → sorted[vs.length / 2]? = some c) ∧
      (vs.length % 2 = 0 → ∃ x y, sorted[vs.length / 2 - 1]? = some x ∧
        sorted[vs.length / 2]? = some y ∧ x ≤ c ∧ c ≤ y ∧
        (0 ≤ x + y → c = (x + y) / 2) ∧ (x + y < 0 → c = -(-(x + y) / 2)))) ∧
    (∀ v, vs = [v] → c = v) ∧
    ((∀ v ∈ vs, InDeviationRange v) → InDeviationRange c)) ∧
  (∀ vs : List Int, vs ≠ [] → ∃ c, median vs = some c) ∧
  (∀ (planSize : Nat) (ds : List (List Int)), ds ≠ [] → (∀ d ∈ ds, d.length = planSize) →
    ∃ cs, centersOf planSize ds = some cs) ∧
  ∀ (planSize : Nat) (ds : List (List Int)) (cs : List Int), centersOf planSize ds = some cs →
    cs.length = planSize ∧ ∀ (i : Nat) (c : Int), cs[i]? = some c → ∃ vs : List Int,
      vs.length = ds.length ∧ (∀ (k : Nat) (d : List Int), ds[k]? = some d → d[i]? = vs[k]?) ∧
        median vs = some c

/-- CENTER_STEP (R87 to R92, R104): a FREE cohort's step does nothing; without enough contributors the
record stays, but a day already centered loses its centers; with enough of them the centers are stored
and COMMON raised for the parameters beyond W, unless the day was centered before. -/
def Obligations.CenterStepEffect : Prop :=
  ∀ (s : State) (d : Nat) (c : CohortId) (k : SheetNo), s.DayAt d (.center c) →
    s.evaluatingSheet d = some k →
    let next : Stage := if h : c.val + 1 < 16 then .center ⟨c.val + 1, h⟩ else .apply 0
    (s.cohort c = none → exec .centerStep s = .next (s.setStage next)) ∧
    ∀ x set, s.cohort c = some x → (s.family x.family).active = some set →
      let gives (i : Slot) (ds : List Int) := ∃ e r, (s.sheet k).entries.get i = some e ∧
        e.result = some r ∧ r.cohort = some c ∧ r.eligible = true ∧ ds = r.devs
      let before := ∃ n, x.lastDay = some n ∧ d ≤ n
      ∃ ds : List (List Int), ds = contributors c x (s.sheet k) ∧
        (∀ v, v ∈ ds ↔ ∃ i, gives i v ∧ match x.mode with
          | .median _ => True
          | .anchor a => a = some i) ∧
        let enough := match x.mode with
          | .median q => q ≤ ds.length
          | .anchor _ => ds.length = 1
        (¬ enough → ¬ before → exec .centerStep s =
          .next ((s.setCohort c (some x)).setStage next)) ∧
        (¬ enough → before → exec .centerStep s =
          .next ((s.setCohort c (some { x with centers := none, count := 0 })).setStage next)) ∧
        ∀ cs, enough → centersOf set.plan.length ds = some cs →
          let s' := s.setCohort c (some { x with
            lastDay := some d, centers := some cs, count := ds.length })
          let common := (List.range set.plan.length).filter fun i =>
            match set.plan[i]?, cs[i]? with
            | some e, some v => decide (e.warn < v.natAbs)
            | _, _ => false
          exec .centerStep s = .next
            (State.setStage (if before ∨ common = [] then s'
              else s'.raise ⟨.common, .cohort c, d, common⟩) next)

/-! ### Jobs -/

/-- REBUILD (R22, R109); the id counter goes on to the next id that is not held (R97). -/
def Obligations.RebuildOutcome : Prop :=
  ∀ (s : State) (h : Held), s.Ready .rebuild h →
    let n := byteAt h.frame.payload 0
    (127 < n → exec .rebuild s = .next (answer h .badValue [] s)) ∧
    ∀ i : Slot, n = i.val →
      let st := (s.lane i).state
      (st = .vacant → exec .rebuild s = .next (answer h .unknownLane [] s)) ∧
      (st = .enrolled ∨ st = .suspended → exec .rebuild s = .next (answer h .badValue [] s)) ∧
      (st = .settling ∨ st = .tracking →
        (∀ ahead j behind, s.queue = ahead ++ j :: behind → j.kind = .rebuild i →
          (∀ x ∈ ahead, x.kind ≠ .rebuild i) →
          exec .rebuild s = .next (answer h .duplicate (u16 j.id) s)) ∧
        ((∀ j ∈ s.queue, j.kind ≠ .rebuild i) →
          (8 ≤ s.queue.length → exec .rebuild s = .next (answer h .full [] s)) ∧
          (s.queue.length < 8 → ∃ next,
            (QueueLaw s → FirstFreeAfter (s.nextJobId :: s.heldJobIds) s.nextJobId next) ∧
            exec .rebuild s = .next (answer h .queued (u16 s.nextJobId) { s with
              queue := s.queue ++ [⟨s.nextJobId, .rebuild i, .queued⟩], nextJobId := next }))))

/-- CANCEL_JOB (R112, R132), and how every outcome joins the finished list: at the tail, the oldest of 8
dropped to make room (R101). -/
def Obligations.CancelJobOutcome : Prop :=
  (∀ (o : JobOutcome) (l : List JobOutcome),
    (l.length < 8 → addOutcome o l = l ++ [o]) ∧
    ∀ oldest rest, l = oldest :: rest → l.length = 8 → addOutcome o l = rest ++ [o]) ∧
  ∀ (s : State) (h : Held), s.Ready .cancelJob h →
    let id := wordAt h.frame.payload 0
    ((∀ j ∈ s.queue, j.id ≠ id) → exec .cancelJob s = .next (answer h .notFound [] s)) ∧
    ∀ ahead j behind, s.queue = ahead ++ j :: behind → j.id = id → (∀ x ∈ ahead, x.id ≠ id) →
      (∀ d, j.kind = .day d → exec .cancelJob s = .next (answer h .dayJob [] s)) ∧
      ∀ i, j.kind = .rebuild i →
        (j.state = .queued → exec .cancelJob s = .next (answer h .ok [0] { s with
          queue := ahead ++ behind
          finished := addOutcome ⟨id, .rebuild i, .cancelled⟩ s.finished })) ∧
        ∀ st, j.state = .running st → exec .cancelJob s = .next (answer h .ok [1]
          { s.setLane i { s.lane i with chart := .unsettled } with
            queue := ahead ++ behind
            finished := addOutcome ⟨id, .rebuild i, .aborted⟩ s.finished })

/-- DAY_JOB_START promotes pending settings, makes the sheet EVALUATING and enters DEVIATE at slot 0
(R8, R42, R102); DAY_JOB_END frees the sheet and finishes the job (R42, R107). -/
def Obligations.DayJobStartAndEndEffect : Prop :=
  (∀ (s : State) (j : Job) (rest : List Job) (d : Nat), s.resetAsserted = false →
    s.queue = j :: rest → j.state = .queued → j.kind = .day d →
    ∃ t, exec .dayJobStart s = .next t ∧
      t.queue = { j with state := .running (.deviate 0) } :: rest ∧
      (∀ k, t.sheet k = if (s.sheet k).state = .closing ∧ (s.sheet k).day = some d then
        { s.sheet k with state := .evaluating } else s.sheet k) ∧
      (∀ f, t.family f = match (s.family f).pending with
        | none => s.family f
        | some x => ⟨some x, none⟩) ∧
      (let remade (f : FamilyId) (x : Settings) : Prop := (s.family f).pending = some x ∧
          (s.family f).active.map Settings.layout ≠ some x.layout
       (∀ i f x, (s.lane i).state ≠ .vacant → (s.lane i).family = some f → remade f x →
          t.lane i = { s.lane i with
            params := List.replicate x.plan.length ⟨0, ⟨.zero, 0⟩⟩ }) ∧
       (∀ i, ((s.lane i).state = .vacant ∨
            ∀ f x, (s.lane i).family = some f → ¬ remade f x) → t.lane i = s.lane i) ∧
       (∀ c y x, s.cohort c = some y → remade y.family x →
          t.cohort c = some { y with centers := none, count := 0 }) ∧
       (∀ c, (∀ y x, s.cohort c = some y → ¬ remade y.family x) → t.cohort c = s.cohort c)) ∧
      ∃ queue sheets families lanes cohorts, t = { s with
        queue := queue, sheets := sheets, families := families, lanes := lanes,
        cohorts := cohorts }) ∧
  ∀ (s : State) (d : Nat), s.DayAt d .applied →
    ∃ j rest, s.queue = j :: rest ∧ ∃ t, exec .dayJobEnd s = .next t ∧
      (∀ k, t.sheet k = if (s.sheet k).state = .evaluating ∧ (s.sheet k).day = some d then .blank
        else s.sheet k) ∧
      t = { s with
        sheets := t.sheets
        queue := rest
        finished := addOutcome ⟨j.id, .day d, .done⟩ s.finished }

/-- DEVIATE_STEP (R57 to R61, R85, R103). -/
def Obligations.DeviateStepEffect : Prop :=
  ∀ (s : State) (d : Nat) (i : Slot) (k : SheetNo), s.DayAt d (.deviate i) →
    s.evaluatingSheet d = some k →
    let next : Stage := if h : i.val + 1 < 128 then .deviate ⟨i.val + 1, h⟩ else .center 0
    let l := s.lane i
    ((s.sheet k).entries.get i = none → exec .deviateStep s = .next (s.setStage next)) ∧
    ∀ e f x lot, (s.sheet k).entries.get i = some e → l.family = some f →
      (s.family f).active = some x → s.findLot e.lot = some lot →
      ∀ (offsets : Option (List Int)) (values : List Int),
        offsets = (if l.effective = some e.lot then l.effOffsets
          else if l.pendingLot = some e.lot then l.pendOffsets else none) →
        let exact : List Int := match offsets with
          | none => e.raw.map fun (v : Nat) => (v : Int)
          | some os => List.zipWith (fun (v : Nat) (o : Int) => (v : Int) - o) e.raw os
        let bounded := exact.map fun v => max 0 (min 4000 v)
        planValues x.plan bounded = some values →
        let diffs := List.zipWith (fun v aim => v - aim) values lot.aims
        let devs := diffs.map fun v => max (-999) (min 999 v)
        ∃ r : Deviated,
          exec .deviateStep s = .next ((s.setSheet k { s.sheet k with
            entries := (s.sheet k).entries.set i (some { e with result := some r }) }).setStage next) ∧
          r.devs = devs ∧ r.refless = offsets.isNone ∧
          (r.clamped = true ↔ e.clamped = true ∨ exact ≠ bounded) ∧
          (r.saturated = true ↔ diffs ≠ devs) ∧ r.cohort = l.cohort ∧
          (r.eligible = true ↔ l.state = .tracking ∧ l.effective = some e.lot ∧
            offsets.isSome = true ∧ l.cohort.isSome = true ∧
            ∃ n, l.effectiveSince = some n ∧ n < d)

/-- APPLY_STEP without a reading (R105, R106, R137, R139, R140): a lane not taken, applied already or
SUSPENDED is passed by; otherwise a MISSING entry, the counting, its alert and the day. -/
def Obligations.ApplyStepWithoutReading : Prop :=
  ∀ (s : State) (d : Nat) (i : Slot) (k : SheetNo), s.DayAt d (.apply i) →
    s.evaluatingSheet d = some k →
    let next : Stage := if h : i.val + 1 < 128 then .apply ⟨i.val + 1, h⟩ else .applied
    let l := s.lane i
    let e := (s.sheet k).entries.get i
    let later := ∃ n, l.lastApplied = some n ∧ d ≤ n
    let withdrawn := ∃ x, e = some x ∧ l.effective ≠ some x.lot ∧ l.pendingLot ≠ some x.lot
    (l.state = .vacant ∨ l.state = .suspended ∨ (l.state = .enrolled ∧ e = none) ∨ later →
      exec .applyStep s = .next (s.setStage next)) ∧
    ∀ f x, l.family = some f → (s.family f).active = some x → ¬ later →
      (l.state = .enrolled → withdrawn →
        exec .applyStep s = .next ((s.setLane i { l with lastApplied := some d }).setStage next)) ∧
      ∀ lot, l.state = .settling ∨ l.state = .tracking → l.effective = some lot →
        e = none ∨ withdrawn →
        let entry : HistoryEntry := ⟨d, lot, false, .missing e.isSome⟩
        let l' := { l with
          history := (if 32 ≤ l.history.length then l.history.tail else l.history) ++ [entry]
          lastApplied := some d }
        let outcome (l'' : Lane) (raised : List AlertKind) := exec .applyStep s =
          .next (State.setStage ((s.setLane i l'').raiseAll
            (raised.map fun kind => ⟨kind, .lane i, d, []⟩)) next)
        (x.quietLimit = 0 → outcome l' []) ∧
        (x.quietLimit ≠ 0 →
          (2 ≤ l.quiet → outcome { l' with quiet := l.quiet - 1 } []) ∧
          (l.quiet = 1 → outcome { l' with quiet := 0 } [.missed]) ∧
          (l.quiet = 0 → x.dormancyLimit = 0 → outcome l' []) ∧
          (l.quiet = 0 → x.dormancyLimit ≠ 0 → 2 ≤ l.dormancy →
            outcome { l' with dormancy := l.dormancy - 1 } []) ∧
          (l.quiet = 0 → x.dormancyLimit ≠ 0 → l.dormancy ≤ 1 →
            outcome { l' with dormancy := 0, state := .suspended, suspendedFrom := some l.state }
              [.dormant]))

/-- APPLY_STEP of a reading (R36, R37, R63 to R75, R106, R120, R138): the switch when the entry's lot is
the pending one, the evaluated deviations, S and run or their hold, the verdicts, the countdown, the
history entry, the alerts in order and the day. -/
def Obligations.ApplyStepReading : Prop :=
  ∀ (s : State) (d : Nat) (i : Slot) (k : SheetNo) (e : StripEntry) (r : Deviated) (f : FamilyId)
    (x : Settings), s.DayAt d (.apply i) → s.evaluatingSheet d = some k →
    (s.sheet k).entries.get i = some e → e.result = some r → (s.lane i).family = some f →
    (s.family f).active = some x → (∀ n, (s.lane i).lastApplied = some n → n < d) →
    (s.lane i).state ≠ .vacant → (s.lane i).state ≠ .suspended →
    (s.lane i).chart ≠ .rebuilding →
    r.devs.length = x.plan.length → (s.lane i).params.length = x.plan.length →
    let next : Stage := if h : i.val + 1 < 128 then .apply ⟨i.val + 1, h⟩ else .applied
    let old := s.lane i
    let switched := decide (old.effective ≠ some e.lot)
    let l := if switched then { old with
        effective := some e.lot, pendingLot := none, effOffsets := old.pendOffsets,
        pendOffsets := none, effectiveSince := some d,
        params := List.replicate old.params.length ⟨0, ⟨.zero, 0⟩⟩,
        settleRemaining := x.settleDays,
        state := if 0 < x.settleDays then .settling else .tracking }
      else old
    old.effective = some e.lot ∨ old.pendingLot = some e.lot →
    ∀ centers : Option (List Int),
      centers = (r.cohort.bind fun c => (s.cohort c).bind fun y =>
        if y.lastDay = some d then y.centers else none) →
      (∀ cs, centers = some cs → cs.length = x.plan.length) →
      let anchor : Bool := match r.cohort with
        | none => false
        | some c => match s.cohort c with
          | none => false
          | some y => decide (y.mode = .anchor (some i))
      let sound := decide (l.chart = .sound)
      let evaluated (n : Nat) : Option Int := match centers with
        | none => none
        | some cs => if anchor then none else some (r.devs.getD n 0 - cs.getD n 0)
      let bounded (v : Int) : Int := max (-999) (min 999 v)
      ∃ (results : List ParamResult) (charts : List ParamState) (t : State),
        exec .applyStep s = .next t ∧
        results.length = x.plan.length ∧ charts.length = x.plan.length ∧
        (∀ (n : Nat) (q : ParamResult) (new o : ParamState) (pe : PlanEntry),
          results[n]? = some q → charts[n]? = some new → l.params[n]? = some o →
          x.plan[n]? = some pe →
          let used := (q.e).getD q.d
          r.devs[n]? = some q.d ∧ q.e = (evaluated n).map bounded ∧
          new = (if sound then
            ⟨o.s + Int.fdiv (16 * used - o.s) (2 ^ x.shift), stepRun used o.run⟩ else o) ∧
          q.s = (if sound then some new.s else none) ∧ q.run = new.run ∧
          q.verdict = (if pe.act < used.natAbs then .action
            else if l.state = .tracking ∧ sound = true ∧ 16 * pe.drift < new.s.natAbs ∧
              x.runLimit ≤ new.run.length then .drift
            else if pe.warn < used.natAbs then .warning else .ok)) ∧
        (let verdict : Verdict := if ∃ q ∈ results, q.verdict = .action then .action
            else if ∃ q ∈ results, q.verdict = .drift then .drift
            else if ∃ q ∈ results, q.verdict = .warning then .warning else .ok
          let counts := l.state = .settling ∧ ∃ n, l.effectiveSince = some n ∧ n < d
          let remaining := if counts then l.settleRemaining - 1 else l.settleRemaining
          let entry : HistoryEntry := ⟨d, e.lot, false, .reading e.rerun
            { refless := r.refless
              clamped := r.clamped
              saturated := r.saturated || decide (∃ n ∈ List.range x.plan.length,
                ∃ v ∈ (evaluated n).toList, v ≠ bounded v)
              noCenter := r.cohort.isSome && centers.isNone
              settling := decide (l.state = .settling)
              unsettled := decide (l.chart = .unsettled)
              lotSwitch := switched } results verdict⟩
          let params (v : Verdict) := (List.range x.plan.length).filter fun n =>
            results[n]?.any fun q => q.verdict == v
          t = State.setStage ((s.setLane i { l with
              params := charts
              latestVerdict := some verdict
              quiet := x.quietLimit
              dormancy := x.dormancyLimit
              history := (if 32 ≤ l.history.length then l.history.tail else l.history) ++ [entry]
              lastApplied := some d
              settleRemaining := remaining
              state := if counts ∧ remaining = 0 then .tracking else l.state }).raiseAll
            ((if params .action = [] then [] else [⟨.action, .lane i, d, params .action⟩])
              ++ (if params .drift = [] then [] else [⟨.drift, .lane i, d, params .drift⟩])
              ++ (if r.refless then [⟨.refless, .lane i, d, []⟩] else []))) next)

/-- REBUILD_START, REPLAY_STEP and REBUILD_END (R98, R111, R128, R129, R131). -/
def Obligations.RebuildJobEffect : Prop :=
  (∀ (s : State) (j : Job) (rest : List Job) (i : Slot), s.resetAsserted = false →
    s.queue = j :: rest → j.state = .queued → j.kind = .rebuild i →
    exec .rebuildStart s = .next { s.setLane i { s.lane i with
        chart := .rebuilding
        params := List.replicate (s.lane i).params.length ⟨0, ⟨.zero, 0⟩⟩ } with
      queue := { j with state := .running (.replay 0) } :: rest }) ∧
  ∀ (s : State) (i : Slot) (n : Nat), s.RebuildAt i n →
    let l := s.lane i
    (l.history.length ≤ n → ∃ j rest, s.queue = j :: rest ∧ exec .rebuildEnd s =
      .next { s.setLane i { l with chart := .sound } with
        queue := rest, finished := addOutcome ⟨j.id, .rebuild i, .done⟩ s.finished }) ∧
    ∀ f x entry, l.family = some f → (s.family f).active = some x → l.history[n]? = some entry →
      let from_ := ∃ since, l.effectiveSince = some since ∧ since ≤ entry.day
      ((∀ rerun notes rs v, entry.body = .reading rerun notes rs v → from_ →
          entry.excluded = false → ∃ params, exec .replayStep s =
            .next ((s.setLane i { l with params := params }).setStage (.replay (n + 1))) ∧
          params.length = min l.params.length rs.length ∧
          ∀ (m : Nat) (o : ParamState) (q : ParamResult), l.params[m]? = some o →
            rs[m]? = some q → params[m]? =
              some ⟨o.s + Int.fdiv (16 * q.e.getD q.d - o.s) (2 ^ x.shift),
                stepRun (q.e.getD q.d) o.run⟩) ∧
        ((∃ w, entry.body = .missing w) ∨ ¬ from_ ∨ entry.excluded = true →
          exec .replayStep s = .next ((s.setLane i l).setStage (.replay (n + 1)))))

/-- The smoothing update moves S toward 16 e and never past it, rounding down (R66, R67); a run counts
the days of one sign (R69). -/
def Obligations.SmoothingAndRunUpdate : Prop :=
  (∀ (k : Nat) (s e : Int), 1 ≤ k → k ≤ 3 →
    let t := smooth k s e
    let δ := 16 * e - s
    (δ = 0 → t = s) ∧ (0 ≤ δ → s ≤ t ∧ t ≤ 16 * e) ∧ (0 ≤ δ → δ < 2 ^ k → t = s) ∧
    (δ < 0 → 16 * e ≤ t ∧ t ≤ s - 1) ∧
    (t - s) * 2 ^ k ≤ δ ∧ δ < (t - s + 1) * 2 ^ k ∧
    (InDeviationRange e → InSmoothedRange s → InSmoothedRange t)) ∧
  ∀ (e : Int) (r : Run), (r.length = 0 → r.sign = .zero) → (r.sign = .zero → r.length = 0) →
    r.length ≤ 255 →
    let t := stepRun e r
    (e = 0 → t = ⟨.zero, 0⟩) ∧
    (0 < e → r.sign ≠ .minus → t = ⟨.plus, min 255 (r.length + 1)⟩) ∧
    (0 < e → r.sign = .minus → t = ⟨.plus, 1⟩) ∧
    (e < 0 → r.sign ≠ .plus → t = ⟨.minus, min 255 (r.length + 1)⟩) ∧
    (e < 0 → r.sign = .plus → t = ⟨.minus, 1⟩) ∧
    (t.length = 0 ↔ t.sign = .zero) ∧ t.length ≤ 255

/-! ### History -/

/-- READ_CHART (R22, R133, R134, R176, R177): the head, whole entries from the from-day, oldest first,
as many as fit in 1016 bytes and the maximum count, and the tail; each entry in the 10 + 7 P bytes of
R176. -/
def Obligations.ReadChartReport : Prop :=
  (∀ x : HistoryEntry,
    let verdict (v : Verdict) : Nat := match v with
      | .ok => 0
      | .warning => 1
      | .drift => 2
      | .action => 3
    let sign (r : Run) : Nat := match r.sign with
      | .zero => 0
      | .plus => 1
      | .minus => 2
    let bit (b : Bool) (n : Nat) : Nat := if b then n else 0
    let twelve (v : Int) : Nat := (v % 4096).toNat
    let result (r : ParamResult) : List Byte :=
      let d := twelve r.d
      let e := twelve (r.e.getD 0)
      u8 (bit r.e.isSome 128 + bit r.s.isSome 64 + 16 * sign r.run + verdict r.verdict)
        ++ u8 (d / 16) ++ u8 (16 * (d % 16) + e / 256) ++ u8 (e % 256)
        ++ i16 (r.s.getD 0) ++ u8 r.run.length
    match x.body with
    | .reading rerun notes rs v =>
      x.bytes = u16 x.day ++ [0] ++ u16 x.lot ++ u8 rerun
        ++ u8 (bit notes.refless 128 + bit notes.clamped 64 + bit notes.saturated 32
          + bit notes.noCenter 16 + bit notes.settling 8 + bit notes.unsettled 4
          + bit notes.lotSwitch 2)
        ++ u8 (bit x.excluded 1) ++ u8 (verdict v) ++ u8 rs.length ++ rs.flatMap result ∧
      x.bytes.length = 10 + 7 * rs.length
    | .missing withdrawn =>
      x.bytes = u16 x.day ++ [1] ++ u16 x.lot ++ [0xFF] ++ u8 (bit withdrawn 1)
        ++ u8 (bit x.excluded 1) ++ [0xFF] ++ [0] ∧
      x.bytes.length = 10) ∧
  ∀ (s : State) (h : Held), s.Ready .readChart h →
    let p := h.frame.payload
    (127 < byteAt p 0 → exec .readChart s = .next (answer h .badValue [] s)) ∧
    ∀ i : Slot, byteAt p 0 = i.val →
      let l := s.lane i
      (l.state = .vacant → exec .readChart s = .next (answer h .unknownLane [] s)) ∧
      (l.state ≠ .vacant → 32 < byteAt p 3 → exec .readChart s = .next (answer h .badValue [] s)) ∧
      (l.state ≠ .vacant → byteAt p 3 ≤ 32 →
        let wanted := l.history.filter fun x => decide (wordAt p 1 ≤ x.day)
        let head := u8 i.val ++ u8 l.state.code ++ u8 l.chart.code ++ opt16 l.effectiveSince
          ++ u8 l.history.length ++ u8 l.params.length
          ++ l.params.flatMap (fun q => i16 q.s ++ u8 q.run.sign.code ++ u8 q.run.length)
        let size (page : List HistoryEntry) :=
          head.length + 1 + (page.flatMap HistoryEntry.bytes).length + 3
        ∃ page rest more, wanted = page ++ rest ∧ exec .readChart s =
            .next (answer h .ok (head ++ u8 page.length ++ page.flatMap HistoryEntry.bytes ++ more) s) ∧
          (page ≠ [] → size page ≤ 1016) ∧ (byteAt p 3 ≠ 0 → page.length ≤ byteAt p 3) ∧
          (∀ x xs, rest = x :: xs → 1016 < size (page ++ [x]) ∨
            byteAt p 3 ≠ 0 ∧ page.length = byteAt p 3) ∧
          (∀ last, page.getLast? = some last →
            more = if ∃ y ∈ l.history, last.day < y.day then [1] ++ u16 (last.day + 1) else [0, 0, 0]) ∧
          (page = [] → more = [0, 0, 0]))

/-- EXCLUDE_DAY (R22, R124, R125); the id counter goes on to the next id that is not held (R97). -/
def Obligations.ExcludeDayOutcome : Prop :=
  ∀ (s : State) (h : Held), s.Ready .excludeDay h →
    let p := h.frame.payload
    let day := wordAt p 1
    let want := decide (byteAt p 3 = 1)
    (127 < byteAt p 0 → exec .excludeDay s = .next (answer h .badValue [] s)) ∧
    ∀ i : Slot, byteAt p 0 = i.val →
      let l := s.lane i
      (l.state = .vacant → exec .excludeDay s = .next (answer h .unknownLane [] s)) ∧
      (l.state ≠ .vacant → 1 < byteAt p 3 ∨ day = 0 →
        exec .excludeDay s = .next (answer h .badValue [] s)) ∧
      (l.state ≠ .vacant → byteAt p 3 ≤ 1 → day ≠ 0 →
        ((∀ x ∈ l.history, x.day ≠ day) → exec .excludeDay s = .next (answer h .notFound [] s)) ∧
        ∀ x, l.history.find? (fun y => y.day == day) = some x →
          (s.rebuildRunning i = true → exec .excludeDay s = .next (answer h .busy [] s)) ∧
          (s.rebuildRunning i = false → x.excluded = want → exec .excludeDay s =
            .next (answer h .ok (flag want ++ u8 l.chart.code ++ [3] ++ u16 0) s)) ∧
          (s.rebuildRunning i = false → x.excluded ≠ want →
            let s' := s.setLane i { l with
              history := l.history.map fun y => if y.day = day then { y with excluded := want } else y
              chart := .unsettled }
            (∀ ahead j behind, s.queue = ahead ++ j :: behind → j.kind = .rebuild i →
              (∀ y ∈ ahead, y.kind ≠ .rebuild i) → exec .excludeDay s =
                .next (answer h .ok (flag want ++ [2, 1] ++ u16 j.id) s')) ∧
            ((∀ j ∈ s.queue, j.kind ≠ .rebuild i) → s.queue.length < 8 →
              ∃ next, (QueueLaw s →
                  FirstFreeAfter (s.nextJobId :: s.heldJobIds) s.nextJobId next) ∧
                exec .excludeDay s = .next (answer h .ok (flag want ++ [2, 0] ++ u16 s.nextJobId) { s' with
                  queue := s.queue ++ [⟨s.nextJobId, .rebuild i, .queued⟩]
                  nextJobId := next })) ∧
            ((∀ j ∈ s.queue, j.kind ≠ .rebuild i) → 8 ≤ s.queue.length →
              exec .excludeDay s = .next (answer h .ok (flag want ++ [2, 2] ++ u16 0) s'))))

/-! ### Alerts -/

/-- A raise updates the record of its subject and kind in place, or creates one at the tail, or
displaces the oldest record of lower severity, or is dropped and sets the overflow indicator; a
creation or an update owes a pulse to each PULSE port it qualifies for (R148, R149, R150, R157). A
creation takes the next serial, and the counter goes on to the next one that is not held (R147). -/
def Obligations.RaiseOutcome : Prop :=
  ∀ (s : State) (r : Raise),
    let same (a : Alert) : Bool := a.kind == r.kind && a.subject == r.subject
    let pulsed := s.ports.map fun x =>
      if x.mode = .pulse ∧ x.threshold ≤ r.kind.severity then
        { x with owed := min 255 (x.owed + 1) } else x
    let new : Alert := ⟨s.nextSerial, r.kind, r.subject, r.day, r.day, 1, r.params⟩
    let created (room : List Alert) := ∃ next,
      (AlertLaw s → FirstFreeAfter ((room ++ [new]).map (·.serial)) s.nextSerial next) ∧
      s.raise r = { s with
      alerts := room ++ [new], nextSerial := next, ports := pulsed }
    ((∃ a ∈ s.alerts, same a = true) → s.raise r = { s with
      alerts := s.alerts.map fun a => if same a then { a with
        latestDay := r.day, raises := min 255 (a.raises + 1), params := r.params } else a
      ports := pulsed }) ∧
    ((∀ a ∈ s.alerts, same a = false) →
      (s.alerts.length < 64 → created s.alerts) ∧
      (64 ≤ s.alerts.length →
        (∀ older a newer, s.alerts = older ++ a :: newer → a.kind.severity < r.kind.severity →
          (∀ b ∈ older, r.kind.severity ≤ b.kind.severity) → created (older ++ newer)) ∧
        ((∀ a ∈ s.alerts, r.kind.severity ≤ a.kind.severity) →
          s.raise r = { s with overflow := true })))

/-- LIST_ALERTS (R154, R172, R177): whole records from the start on, as many as fit in 1016 bytes. -/
def Obligations.ListAlertsReport : Prop :=
  ∀ (s : State) (h : Held), s.Ready .listAlerts h →
    let start := wordAt h.frame.payload 0
    let record (a : Alert) : List Byte := u16 a.serial ++ u8 a.kind.code
      ++ u8 (match a.subject with
        | .lane i => i.val
        | .cohort c => c.val)
      ++ u8 a.kind.severity ++ u16 a.firstDay ++ u16 a.latestDay ++ u8 a.raises ++ paramMask a.params
    (start ≠ 0 → (∀ a ∈ s.alerts, a.serial ≠ start) →
      exec .listAlerts s = .next (answer h .notFound [] s)) ∧
    ∀ before listed, s.alerts = before ++ listed →
      (start = 0 ∧ before = [] ∨ start ≠ 0 ∧ (listed.head?.map (·.serial)) = some start ∧
        ∀ a ∈ before, a.serial ≠ start) →
      let page := listed.take 84
      exec .listAlerts s = .next (answer h .ok
        (u8 s.alerts.length ++ flag s.overflow ++ u8 page.length ++ page.flatMap record
          ++ match listed.drop 84 with
            | [] => [0, 0, 0]
            | a :: _ => [1] ++ u16 a.serial) s)

/-- ACK_ALERT (R155, R151). -/
def Obligations.AckAlertOutcome : Prop :=
  ∀ (s : State) (h : Held), s.Ready .ackAlert h →
    let serial := wordAt h.frame.payload 0
    let count := byteAt h.frame.payload 2
    ((∀ a ∈ s.alerts, a.serial ≠ serial) → exec .ackAlert s = .next (answer h .notFound [] s)) ∧
    ∀ a, (s.alerts.find? fun b => b.serial == serial) = some a →
      (a.raises ≠ count → exec .ackAlert s =
        .next (answer h .changed (u8 a.raises ++ u16 a.latestDay) s)) ∧
      (a.raises = count →
        let left := s.alerts.filter fun b => b.serial != serial
        exec .ackAlert s = .next (answer h .ok (u16 serial ++ u8 left.length) { s with
          alerts := left
          overflow := if left = [] then false else s.overflow }))

/-! ### The laws of the tables -/

/-- Every law holds after power-on. -/
def Obligations.LawsHoldAfterPowerOn : Prop :=
  (LinkLaw State.reset ∧ QueueLaw State.reset ∧ RingLaw State.reset ∧ LaneLaw State.reset ∧
    AlertLaw State.reset ∧ BoundsLaw State.reset) ∧
  FamilyLaw State.reset ∧ LotLaw State.reset ∧ ChartLaw State.reset ∧ RecordLaw State.reset ∧
    StageLaw State.reset

/-- The laws of ports, arbiter and executor are kept by every step (R115, R157, R164, R166, R167). -/
def Obligations.LinkLawKept : Prop :=
  ∀ s t : State, LinkLaw s → step s = .next t → LinkLaw t

/-- The laws of the work queue, the finished list and the job ids are kept by every step (R96, R97,
R98, R101). -/
def Obligations.QueueLawKept : Prop :=
  ∀ s t : State, QueueLaw s → step s = .next t → QueueLaw t

/-- The laws of the sheet ring and its DAY jobs are kept by every step (R39, R40, R42, R96). -/
def Obligations.RingLawKept : Prop :=
  ∀ s t : State, QueueLaw s → RingLaw s → step s = .next t → RingLaw t

/-- The laws of lanes, directory and cohort membership are kept by every step (R20, R21, R26, R79), and so
are those of charts, offsets and histories (R29, R120, R122). R21 gives the directory no order: that it is
kept in slot order (LaneLaw.slotsAscend) is the model's choice, log entry 18. -/
def Obligations.LaneLawKept : Prop :=
  ∀ s t : State, QueueLaw s → LaneLaw s → step s = .next t →
    LaneLaw t ∧ (ChartLaw s → ChartLaw t)

/-- The laws of the alert list are kept by every step (R146, R147, R151). -/
def Obligations.AlertLawKept : Prop :=
  ∀ s t : State, AlertLaw s → step s = .next t → AlertLaw t

/-- Every quantity of the comparison stays within its range (R76): after power-on, and through every
step. -/
def Obligations.ComparisonBoundsKept : Prop :=
  BoundsLaw State.reset ∧ ∀ s t : State, BoundsLaw s → step s = .next t → BoundsLaw t

/-- No sequence of commands whatever, from power-on, ends in a fault or a refusal: every command that
can be sent is answered by a next state (R106, R107, R168; log entry 15). -/
def Obligations.NoCommandSequenceFaults : Prop :=
  ∀ cs : List Instr,
    ∃ t, core.run cs.length { State.reset with pending := cs } = .next t ∧ t.pending = []

/-- A lawful state's step never faults, and it answers a lawful state: no law excludes what a step reads,
and no step breaks a law (R1, R2, R16, R24, R35, R42, R61, R63, R103, R106, R107, R121; log entries 15
and 18). The laws of families and of the lot table (R1, R4, R11) need no other law to be kept. -/
def Obligations.LawfulStepsNeverFault : Prop :=
  (∀ s t : State, FamilyLaw s → step s = .next t → FamilyLaw t) ∧
  (∀ s t : State, LotLaw s → step s = .next t → LotLaw t) ∧
  ∀ s : State, Lawful s → ∃ t, step s = .next t ∧ Lawful t
end

