-- ==== Sys2Proof/Laws/Data.lean ====
section
/-! SUPPORT. The small lemmas of the tables, of the values kept for each port and of sorting. -/

namespace Sys2Proof.Machine

variable {α β : Type} {n : Nat}

/-! ### Tables -/

theorem Table.ext_cells {t u : Table α n} (h : t.cells = u.cells) : t = u := by
  cases t; cases u; cases h; rfl

@[simp] theorem Table.get_set_self (t : Table α n) (i : Fin n) (x : α) : (t.set i x).get i = x := by
  simp [Table.get, Table.set]

theorem Table.get_set (t : Table α n) (i j : Fin n) (x : α) :
    (t.set i x).get j = if i = j then x else t.get j := by
  simp only [Table.get, Table.set, List.getElem_set, Fin.ext_iff]

@[simp] theorem Table.get_set_ne (t : Table α n) {i j : Fin n} (x : α) (h : i ≠ j) :
    (t.set i x).get j = t.get j := by simp [Table.get_set, h]

@[simp] theorem Table.get_fill (x : α) (i : Fin n) : (Table.fill n x).get i = x := by
  simp [Table.get, Table.fill]

@[simp] theorem Table.get_map (f : α → α) (t : Table α n) (i : Fin n) :
    (t.map f).get i = f (t.get i) := by
  simp [Table.get, Table.map]

@[simp] theorem Table.cells_set (t : Table α n) (i : Fin n) (x : α) :
    (t.set i x).cells = t.cells.set i.val x := rfl

@[simp] theorem Table.cells_map (f : α → α) (t : Table α n) :
    (t.map f).cells = t.cells.map f := rfl

/-- A record stands in a table exactly when some number has it. -/
theorem Table.mem_cells {t : Table α n} {x : α} : x ∈ t.cells ↔ ∃ i, t.get i = x := by
  constructor
  · intro h
    obtain ⟨i, hi, rfl⟩ := List.mem_iff_getElem.mp h
    exact ⟨⟨i, t.size ▸ hi⟩, rfl⟩
  · rintro ⟨i, rfl⟩
    exact List.getElem_mem _

/-- Two tables with the same record under every number are equal. -/
theorem Table.ext_get {t u : Table α n} (h : ∀ i, t.get i = u.get i) : t = u := by
  refine Table.ext_cells (List.ext_getElem (by rw [t.size, u.size]) fun i h1 _ => ?_)
  exact h ⟨i, t.size ▸ h1⟩

/-- `find` gives the lowest number whose record satisfies the test. -/
theorem Table.find_eq_some {p : α → Bool} {t : Table α n} {i : Fin n} :
    t.find p = some i ↔ p (t.get i) = true ∧ ∀ j, j < i → p (t.get j) = false := by
  have key : t.find p = some i ↔ t.cells.findIdx? p = some i.val := by
    unfold Table.find
    cases h : t.cells.findIdx? p with
    | none => simp
    | some k =>
      have hk : k < n := by
        have := (List.findIdx?_eq_some_iff_getElem.mp h).1
        rwa [t.size] at this
      simp [hk, Fin.ext_iff]
  rw [key, List.findIdx?_eq_some_iff_getElem]
  constructor
  · rintro ⟨_, hp, hlt⟩
    refine ⟨hp, fun j hj => ?_⟩
    simpa [Table.get] using hlt j.val hj
  · rintro ⟨hp, hlt⟩
    refine ⟨by rw [t.size]; exact i.isLt, hp, fun j hj => ?_⟩
    have hjn : j < n := lt_trans hj i.isLt
    simpa [Table.get] using hlt ⟨j, hjn⟩ hj

/-- `find` gives nothing exactly when no record satisfies the test. -/
theorem Table.find_eq_none {p : α → Bool} {t : Table α n} :
    t.find p = none ↔ ∀ i, p (t.get i) = false := by
  have key : t.find p = none ↔ t.cells.findIdx? p = none := by
    unfold Table.find
    cases h : t.cells.findIdx? p with
    | none => simp
    | some k =>
      have hk : k < n := by
        have := (List.findIdx?_eq_some_iff_getElem.mp h).1
        rwa [t.size] at this
      simp [hk]
  rw [key, List.findIdx?_eq_none_iff]
  constructor
  · intro h i
    exact h _ (Table.mem_cells.mpr ⟨i, rfl⟩)
  · intro h x hx
    obtain ⟨i, rfl⟩ := Table.mem_cells.mp hx
    exact h i

/-! ### One value for each port -/

theorem PerPort.get_set (x : PerPort α) (p q : Port) (v : α) :
    (x.set p v).get q = if p = q then v else x.get q := by
  cases p <;> cases q <;> rfl

@[simp] theorem PerPort.get_set_self (x : PerPort α) (p : Port) (v : α) : (x.set p v).get p = v := by
  cases p <;> rfl

@[simp] theorem PerPort.get_set_ne (x : PerPort α) {p q : Port} (v : α) (h : p ≠ q) :
    (x.set p v).get q = x.get q := by simp [PerPort.get_set, h]

@[simp] theorem PerPort.get_map (f : α → β) (x : PerPort α) (p : Port) :
    (x.map f).get p = f (x.get p) := by cases p <;> rfl

theorem PerPort.ext_get {x y : PerPort α} (h : ∀ p, x.get p = y.get p) : x = y := by
  have ha := h .a; have hb := h .b; have hc := h .c
  cases x; cases y; cases ha; cases hb; cases hc; rfl

/-! ### Ascending order -/

theorem insertSorted_perm [LE α] [DecidableLE α] (x : α) (l : List α) :
    (insertSorted x l).Perm (x :: l) := by
  induction l with
  | nil => exact List.Perm.refl _
  | cons y ys ih =>
    unfold insertSorted
    split
    · exact List.Perm.refl _
    · exact (ih.cons y).trans (List.Perm.swap x y ys)

/-- Sorting keeps every value, repeated ones too. -/
theorem sortAscending_perm [LE α] [DecidableLE α] (l : List α) : (sortAscending l).Perm l := by
  induction l with
  | nil => exact List.Perm.refl _
  | cons x xs ih => exact (insertSorted_perm x _).trans (ih.cons x)

theorem insertSorted_sorted [LinearOrder α] (x : α) (l : List α) (h : l.Pairwise (· ≤ ·)) :
    (insertSorted x l).Pairwise (· ≤ ·) := by
  induction l with
  | nil => simp [insertSorted]
  | cons y ys ih =>
    unfold insertSorted
    have hy := List.pairwise_cons.mp h
    split
    · rename_i hxy
      refine List.pairwise_cons.mpr ⟨fun z hz => ?_, h⟩
      rcases List.mem_cons.mp hz with rfl | hz
      · exact hxy
      · exact le_trans hxy (hy.1 z hz)
    · rename_i hxy
      refine List.pairwise_cons.mpr ⟨fun z hz => ?_, ih hy.2⟩
      rcases List.mem_cons.mp ((insertSorted_perm x ys).mem_iff.mp hz) with rfl | hz
      · exact le_of_lt (not_le.mp hxy)
      · exact hy.1 z hz

/-- Sorting puts the values in ascending order. -/
theorem sortAscending_sorted [LinearOrder α] (l : List α) :
    (sortAscending l).Pairwise (· ≤ ·) := by
  induction l with
  | nil => exact List.Pairwise.nil
  | cons x xs ih => exact insertSorted_sorted x _ ih

end Sys2Proof.Machine
end

