-- ==== Sys2Proof/Laws/State.lean ====
section
/-! SUPPORT. One lemma for each field of the state under each update of one record. -/

namespace Sys2Proof.Machine

variable (s : State)

/-! ### setPort -/

@[simp] theorem State.setPort_pending (p : Port) (x : PortState) :
    (s.setPort p x).pending = s.pending := rfl
@[simp] theorem State.setPort_fresh (p : Port) (x : PortState) :
    (s.setPort p x).fresh = s.fresh := rfl
@[simp] theorem State.setPort_resetAsserted (p : Port) (x : PortState) :
    (s.setPort p x).resetAsserted = s.resetAsserted := rfl
@[simp] theorem State.setPort_config (p : Port) (x : PortState) :
    (s.setPort p x).config = s.config := rfl
@[simp] theorem State.setPort_arbiter (p : Port) (x : PortState) :
    (s.setPort p x).arbiter = s.arbiter := rfl
@[simp] theorem State.setPort_executor (p : Port) (x : PortState) :
    (s.setPort p x).executor = s.executor := rfl
@[simp] theorem State.setPort_families (p : Port) (x : PortState) :
    (s.setPort p x).families = s.families := rfl
@[simp] theorem State.setPort_lots (p : Port) (x : PortState) :
    (s.setPort p x).lots = s.lots := rfl
@[simp] theorem State.setPort_directory (p : Port) (x : PortState) :
    (s.setPort p x).directory = s.directory := rfl
@[simp] theorem State.setPort_lanes (p : Port) (x : PortState) :
    (s.setPort p x).lanes = s.lanes := rfl
@[simp] theorem State.setPort_openDay (p : Port) (x : PortState) :
    (s.setPort p x).openDay = s.openDay := rfl
@[simp] theorem State.setPort_sheets (p : Port) (x : PortState) :
    (s.setPort p x).sheets = s.sheets := rfl
@[simp] theorem State.setPort_cohorts (p : Port) (x : PortState) :
    (s.setPort p x).cohorts = s.cohorts := rfl
@[simp] theorem State.setPort_queue (p : Port) (x : PortState) :
    (s.setPort p x).queue = s.queue := rfl
@[simp] theorem State.setPort_nextJobId (p : Port) (x : PortState) :
    (s.setPort p x).nextJobId = s.nextJobId := rfl
@[simp] theorem State.setPort_finished (p : Port) (x : PortState) :
    (s.setPort p x).finished = s.finished := rfl
@[simp] theorem State.setPort_alerts (p : Port) (x : PortState) :
    (s.setPort p x).alerts = s.alerts := rfl
@[simp] theorem State.setPort_nextSerial (p : Port) (x : PortState) :
    (s.setPort p x).nextSerial = s.nextSerial := rfl
@[simp] theorem State.setPort_overflow (p : Port) (x : PortState) :
    (s.setPort p x).overflow = s.overflow := rfl

/-! ### setPeriod -/

@[simp] theorem State.setPeriod_pending (p : Port) (x : Period) :
    (s.setPeriod p x).pending = s.pending := rfl
@[simp] theorem State.setPeriod_fresh (p : Port) (x : Period) :
    (s.setPeriod p x).fresh = s.fresh := rfl
@[simp] theorem State.setPeriod_resetAsserted (p : Port) (x : Period) :
    (s.setPeriod p x).resetAsserted = s.resetAsserted := rfl
@[simp] theorem State.setPeriod_config (p : Port) (x : Period) :
    (s.setPeriod p x).config = s.config := rfl
@[simp] theorem State.setPeriod_arbiter (p : Port) (x : Period) :
    (s.setPeriod p x).arbiter = s.arbiter := rfl
@[simp] theorem State.setPeriod_executor (p : Port) (x : Period) :
    (s.setPeriod p x).executor = s.executor := rfl
@[simp] theorem State.setPeriod_families (p : Port) (x : Period) :
    (s.setPeriod p x).families = s.families := rfl
@[simp] theorem State.setPeriod_lots (p : Port) (x : Period) :
    (s.setPeriod p x).lots = s.lots := rfl
@[simp] theorem State.setPeriod_directory (p : Port) (x : Period) :
    (s.setPeriod p x).directory = s.directory := rfl
@[simp] theorem State.setPeriod_lanes (p : Port) (x : Period) :
    (s.setPeriod p x).lanes = s.lanes := rfl
@[simp] theorem State.setPeriod_openDay (p : Port) (x : Period) :
    (s.setPeriod p x).openDay = s.openDay := rfl
@[simp] theorem State.setPeriod_sheets (p : Port) (x : Period) :
    (s.setPeriod p x).sheets = s.sheets := rfl
@[simp] theorem State.setPeriod_cohorts (p : Port) (x : Period) :
    (s.setPeriod p x).cohorts = s.cohorts := rfl
@[simp] theorem State.setPeriod_queue (p : Port) (x : Period) :
    (s.setPeriod p x).queue = s.queue := rfl
@[simp] theorem State.setPeriod_nextJobId (p : Port) (x : Period) :
    (s.setPeriod p x).nextJobId = s.nextJobId := rfl
@[simp] theorem State.setPeriod_finished (p : Port) (x : Period) :
    (s.setPeriod p x).finished = s.finished := rfl
@[simp] theorem State.setPeriod_alerts (p : Port) (x : Period) :
    (s.setPeriod p x).alerts = s.alerts := rfl
@[simp] theorem State.setPeriod_nextSerial (p : Port) (x : Period) :
    (s.setPeriod p x).nextSerial = s.nextSerial := rfl
@[simp] theorem State.setPeriod_overflow (p : Port) (x : Period) :
    (s.setPeriod p x).overflow = s.overflow := rfl

/-! ### placeResponse -/

@[simp] theorem State.placeResponse_pending (p : Port) (r : Response) :
    (s.placeResponse p r).pending = s.pending := rfl
@[simp] theorem State.placeResponse_fresh (p : Port) (r : Response) :
    (s.placeResponse p r).fresh = s.fresh := rfl
@[simp] theorem State.placeResponse_resetAsserted (p : Port) (r : Response) :
    (s.placeResponse p r).resetAsserted = s.resetAsserted := rfl
@[simp] theorem State.placeResponse_config (p : Port) (r : Response) :
    (s.placeResponse p r).config = s.config := rfl
@[simp] theorem State.placeResponse_arbiter (p : Port) (r : Response) :
    (s.placeResponse p r).arbiter = s.arbiter := rfl
@[simp] theorem State.placeResponse_executor (p : Port) (r : Response) :
    (s.placeResponse p r).executor = s.executor := rfl
@[simp] theorem State.placeResponse_families (p : Port) (r : Response) :
    (s.placeResponse p r).families = s.families := rfl
@[simp] theorem State.placeResponse_lots (p : Port) (r : Response) :
    (s.placeResponse p r).lots = s.lots := rfl
@[simp] theorem State.placeResponse_directory (p : Port) (r : Response) :
    (s.placeResponse p r).directory = s.directory := rfl
@[simp] theorem State.placeResponse_lanes (p : Port) (r : Response) :
    (s.placeResponse p r).lanes = s.lanes := rfl
@[simp] theorem State.placeResponse_openDay (p : Port) (r : Response) :
    (s.placeResponse p r).openDay = s.openDay := rfl
@[simp] theorem State.placeResponse_sheets (p : Port) (r : Response) :
    (s.placeResponse p r).sheets = s.sheets := rfl
@[simp] theorem State.placeResponse_cohorts (p : Port) (r : Response) :
    (s.placeResponse p r).cohorts = s.cohorts := rfl
@[simp] theorem State.placeResponse_queue (p : Port) (r : Response) :
    (s.placeResponse p r).queue = s.queue := rfl
@[simp] theorem State.placeResponse_nextJobId (p : Port) (r : Response) :
    (s.placeResponse p r).nextJobId = s.nextJobId := rfl
@[simp] theorem State.placeResponse_finished (p : Port) (r : Response) :
    (s.placeResponse p r).finished = s.finished := rfl
@[simp] theorem State.placeResponse_alerts (p : Port) (r : Response) :
    (s.placeResponse p r).alerts = s.alerts := rfl
@[simp] theorem State.placeResponse_nextSerial (p : Port) (r : Response) :
    (s.placeResponse p r).nextSerial = s.nextSerial := rfl
@[simp] theorem State.placeResponse_overflow (p : Port) (r : Response) :
    (s.placeResponse p r).overflow = s.overflow := rfl

/-! ### setCredit -/

@[simp] theorem State.setCredit_pending (p : Port) (n : Nat) :
    (s.setCredit p n).pending = s.pending := rfl
@[simp] theorem State.setCredit_fresh (p : Port) (n : Nat) :
    (s.setCredit p n).fresh = s.fresh := rfl
@[simp] theorem State.setCredit_resetAsserted (p : Port) (n : Nat) :
    (s.setCredit p n).resetAsserted = s.resetAsserted := rfl
@[simp] theorem State.setCredit_config (p : Port) (n : Nat) :
    (s.setCredit p n).config = s.config := rfl
@[simp] theorem State.setCredit_ports (p : Port) (n : Nat) :
    (s.setCredit p n).ports = s.ports := rfl
@[simp] theorem State.setCredit_executor (p : Port) (n : Nat) :
    (s.setCredit p n).executor = s.executor := rfl
@[simp] theorem State.setCredit_families (p : Port) (n : Nat) :
    (s.setCredit p n).families = s.families := rfl
@[simp] theorem State.setCredit_lots (p : Port) (n : Nat) :
    (s.setCredit p n).lots = s.lots := rfl
@[simp] theorem State.setCredit_directory (p : Port) (n : Nat) :
    (s.setCredit p n).directory = s.directory := rfl
@[simp] theorem State.setCredit_lanes (p : Port) (n : Nat) :
    (s.setCredit p n).lanes = s.lanes := rfl
@[simp] theorem State.setCredit_openDay (p : Port) (n : Nat) :
    (s.setCredit p n).openDay = s.openDay := rfl
@[simp] theorem State.setCredit_sheets (p : Port) (n : Nat) :
    (s.setCredit p n).sheets = s.sheets := rfl
@[simp] theorem State.setCredit_cohorts (p : Port) (n : Nat) :
    (s.setCredit p n).cohorts = s.cohorts := rfl
@[simp] theorem State.setCredit_queue (p : Port) (n : Nat) :
    (s.setCredit p n).queue = s.queue := rfl
@[simp] theorem State.setCredit_nextJobId (p : Port) (n : Nat) :
    (s.setCredit p n).nextJobId = s.nextJobId := rfl
@[simp] theorem State.setCredit_finished (p : Port) (n : Nat) :
    (s.setCredit p n).finished = s.finished := rfl
@[simp] theorem State.setCredit_alerts (p : Port) (n : Nat) :
    (s.setCredit p n).alerts = s.alerts := rfl
@[simp] theorem State.setCredit_nextSerial (p : Port) (n : Nat) :
    (s.setCredit p n).nextSerial = s.nextSerial := rfl
@[simp] theorem State.setCredit_overflow (p : Port) (n : Nat) :
    (s.setCredit p n).overflow = s.overflow := rfl

/-! ### setGrant -/

@[simp] theorem State.setGrant_pending (p : Port) :
    (s.setGrant p).pending = s.pending := rfl
@[simp] theorem State.setGrant_fresh (p : Port) :
    (s.setGrant p).fresh = s.fresh := rfl
@[simp] theorem State.setGrant_resetAsserted (p : Port) :
    (s.setGrant p).resetAsserted = s.resetAsserted := rfl
@[simp] theorem State.setGrant_config (p : Port) :
    (s.setGrant p).config = s.config := rfl
@[simp] theorem State.setGrant_ports (p : Port) :
    (s.setGrant p).ports = s.ports := rfl
@[simp] theorem State.setGrant_executor (p : Port) :
    (s.setGrant p).executor = s.executor := rfl
@[simp] theorem State.setGrant_families (p : Port) :
    (s.setGrant p).families = s.families := rfl
@[simp] theorem State.setGrant_lots (p : Port) :
    (s.setGrant p).lots = s.lots := rfl
@[simp] theorem State.setGrant_directory (p : Port) :
    (s.setGrant p).directory = s.directory := rfl
@[simp] theorem State.setGrant_lanes (p : Port) :
    (s.setGrant p).lanes = s.lanes := rfl
@[simp] theorem State.setGrant_openDay (p : Port) :
    (s.setGrant p).openDay = s.openDay := rfl
@[simp] theorem State.setGrant_sheets (p : Port) :
    (s.setGrant p).sheets = s.sheets := rfl
@[simp] theorem State.setGrant_cohorts (p : Port) :
    (s.setGrant p).cohorts = s.cohorts := rfl
@[simp] theorem State.setGrant_queue (p : Port) :
    (s.setGrant p).queue = s.queue := rfl
@[simp] theorem State.setGrant_nextJobId (p : Port) :
    (s.setGrant p).nextJobId = s.nextJobId := rfl
@[simp] theorem State.setGrant_finished (p : Port) :
    (s.setGrant p).finished = s.finished := rfl
@[simp] theorem State.setGrant_alerts (p : Port) :
    (s.setGrant p).alerts = s.alerts := rfl
@[simp] theorem State.setGrant_nextSerial (p : Port) :
    (s.setGrant p).nextSerial = s.nextSerial := rfl
@[simp] theorem State.setGrant_overflow (p : Port) :
    (s.setGrant p).overflow = s.overflow := rfl

/-! ### setFamily -/

@[simp] theorem State.setFamily_pending (f : FamilyId) (x : FamilyRecord) :
    (s.setFamily f x).pending = s.pending := rfl
@[simp] theorem State.setFamily_fresh (f : FamilyId) (x : FamilyRecord) :
    (s.setFamily f x).fresh = s.fresh := rfl
@[simp] theorem State.setFamily_resetAsserted (f : FamilyId) (x : FamilyRecord) :
    (s.setFamily f x).resetAsserted = s.resetAsserted := rfl
@[simp] theorem State.setFamily_config (f : FamilyId) (x : FamilyRecord) :
    (s.setFamily f x).config = s.config := rfl
@[simp] theorem State.setFamily_ports (f : FamilyId) (x : FamilyRecord) :
    (s.setFamily f x).ports = s.ports := rfl
@[simp] theorem State.setFamily_arbiter (f : FamilyId) (x : FamilyRecord) :
    (s.setFamily f x).arbiter = s.arbiter := rfl
@[simp] theorem State.setFamily_executor (f : FamilyId) (x : FamilyRecord) :
    (s.setFamily f x).executor = s.executor := rfl
@[simp] theorem State.setFamily_lots (f : FamilyId) (x : FamilyRecord) :
    (s.setFamily f x).lots = s.lots := rfl
@[simp] theorem State.setFamily_directory (f : FamilyId) (x : FamilyRecord) :
    (s.setFamily f x).directory = s.directory := rfl
@[simp] theorem State.setFamily_lanes (f : FamilyId) (x : FamilyRecord) :
    (s.setFamily f x).lanes = s.lanes := rfl
@[simp] theorem State.setFamily_openDay (f : FamilyId) (x : FamilyRecord) :
    (s.setFamily f x).openDay = s.openDay := rfl
@[simp] theorem State.setFamily_sheets (f : FamilyId) (x : FamilyRecord) :
    (s.setFamily f x).sheets = s.sheets := rfl
@[simp] theorem State.setFamily_cohorts (f : FamilyId) (x : FamilyRecord) :
    (s.setFamily f x).cohorts = s.cohorts := rfl
@[simp] theorem State.setFamily_queue (f : FamilyId) (x : FamilyRecord) :
    (s.setFamily f x).queue = s.queue := rfl
@[simp] theorem State.setFamily_nextJobId (f : FamilyId) (x : FamilyRecord) :
    (s.setFamily f x).nextJobId = s.nextJobId := rfl
@[simp] theorem State.setFamily_finished (f : FamilyId) (x : FamilyRecord) :
    (s.setFamily f x).finished = s.finished := rfl
@[simp] theorem State.setFamily_alerts (f : FamilyId) (x : FamilyRecord) :
    (s.setFamily f x).alerts = s.alerts := rfl
@[simp] theorem State.setFamily_nextSerial (f : FamilyId) (x : FamilyRecord) :
    (s.setFamily f x).nextSerial = s.nextSerial := rfl
@[simp] theorem State.setFamily_overflow (f : FamilyId) (x : FamilyRecord) :
    (s.setFamily f x).overflow = s.overflow := rfl

/-! ### setLane -/

@[simp] theorem State.setLane_pending (i : Slot) (x : Lane) :
    (s.setLane i x).pending = s.pending := rfl
@[simp] theorem State.setLane_fresh (i : Slot) (x : Lane) :
    (s.setLane i x).fresh = s.fresh := rfl
@[simp] theorem State.setLane_resetAsserted (i : Slot) (x : Lane) :
    (s.setLane i x).resetAsserted = s.resetAsserted := rfl
@[simp] theorem State.setLane_config (i : Slot) (x : Lane) :
    (s.setLane i x).config = s.config := rfl
@[simp] theorem State.setLane_ports (i : Slot) (x : Lane) :
    (s.setLane i x).ports = s.ports := rfl
@[simp] theorem State.setLane_arbiter (i : Slot) (x : Lane) :
    (s.setLane i x).arbiter = s.arbiter := rfl
@[simp] theorem State.setLane_executor (i : Slot) (x : Lane) :
    (s.setLane i x).executor = s.executor := rfl
@[simp] theorem State.setLane_families (i : Slot) (x : Lane) :
    (s.setLane i x).families = s.families := rfl
@[simp] theorem State.setLane_lots (i : Slot) (x : Lane) :
    (s.setLane i x).lots = s.lots := rfl
@[simp] theorem State.setLane_directory (i : Slot) (x : Lane) :
    (s.setLane i x).directory = s.directory := rfl
@[simp] theorem State.setLane_openDay (i : Slot) (x : Lane) :
    (s.setLane i x).openDay = s.openDay := rfl
@[simp] theorem State.setLane_sheets (i : Slot) (x : Lane) :
    (s.setLane i x).sheets = s.sheets := rfl
@[simp] theorem State.setLane_cohorts (i : Slot) (x : Lane) :
    (s.setLane i x).cohorts = s.cohorts := rfl
@[simp] theorem State.setLane_queue (i : Slot) (x : Lane) :
    (s.setLane i x).queue = s.queue := rfl
@[simp] theorem State.setLane_nextJobId (i : Slot) (x : Lane) :
    (s.setLane i x).nextJobId = s.nextJobId := rfl
@[simp] theorem State.setLane_finished (i : Slot) (x : Lane) :
    (s.setLane i x).finished = s.finished := rfl
@[simp] theorem State.setLane_alerts (i : Slot) (x : Lane) :
    (s.setLane i x).alerts = s.alerts := rfl
@[simp] theorem State.setLane_nextSerial (i : Slot) (x : Lane) :
    (s.setLane i x).nextSerial = s.nextSerial := rfl
@[simp] theorem State.setLane_overflow (i : Slot) (x : Lane) :
    (s.setLane i x).overflow = s.overflow := rfl

/-! ### setSheet -/

@[simp] theorem State.setSheet_pending (k : SheetNo) (x : Sheet) :
    (s.setSheet k x).pending = s.pending := rfl
@[simp] theorem State.setSheet_fresh (k : SheetNo) (x : Sheet) :
    (s.setSheet k x).fresh = s.fresh := rfl
@[simp] theorem State.setSheet_resetAsserted (k : SheetNo) (x : Sheet) :
    (s.setSheet k x).resetAsserted = s.resetAsserted := rfl
@[simp] theorem State.setSheet_config (k : SheetNo) (x : Sheet) :
    (s.setSheet k x).config = s.config := rfl
@[simp] theorem State.setSheet_ports (k : SheetNo) (x : Sheet) :
    (s.setSheet k x).ports = s.ports := rfl
@[simp] theorem State.setSheet_arbiter (k : SheetNo) (x : Sheet) :
    (s.setSheet k x).arbiter = s.arbiter := rfl
@[simp] theorem State.setSheet_executor (k : SheetNo) (x : Sheet) :
    (s.setSheet k x).executor = s.executor := rfl
@[simp] theorem State.setSheet_families (k : SheetNo) (x : Sheet) :
    (s.setSheet k x).families = s.families := rfl
@[simp] theorem State.setSheet_lots (k : SheetNo) (x : Sheet) :
    (s.setSheet k x).lots = s.lots := rfl
@[simp] theorem State.setSheet_directory (k : SheetNo) (x : Sheet) :
    (s.setSheet k x).directory = s.directory := rfl
@[simp] theorem State.setSheet_lanes (k : SheetNo) (x : Sheet) :
    (s.setSheet k x).lanes = s.lanes := rfl
@[simp] theorem State.setSheet_openDay (k : SheetNo) (x : Sheet) :
    (s.setSheet k x).openDay = s.openDay := rfl
@[simp] theorem State.setSheet_cohorts (k : SheetNo) (x : Sheet) :
    (s.setSheet k x).cohorts = s.cohorts := rfl
@[simp] theorem State.setSheet_queue (k : SheetNo) (x : Sheet) :
    (s.setSheet k x).queue = s.queue := rfl
@[simp] theorem State.setSheet_nextJobId (k : SheetNo) (x : Sheet) :
    (s.setSheet k x).nextJobId = s.nextJobId := rfl
@[simp] theorem State.setSheet_finished (k : SheetNo) (x : Sheet) :
    (s.setSheet k x).finished = s.finished := rfl
@[simp] theorem State.setSheet_alerts (k : SheetNo) (x : Sheet) :
    (s.setSheet k x).alerts = s.alerts := rfl
@[simp] theorem State.setSheet_nextSerial (k : SheetNo) (x : Sheet) :
    (s.setSheet k x).nextSerial = s.nextSerial := rfl
@[simp] theorem State.setSheet_overflow (k : SheetNo) (x : Sheet) :
    (s.setSheet k x).overflow = s.overflow := rfl

/-! ### setCohort -/

@[simp] theorem State.setCohort_pending (c : CohortId) (x : Option Cohort) :
    (s.setCohort c x).pending = s.pending := rfl
@[simp] theorem State.setCohort_fresh (c : CohortId) (x : Option Cohort) :
    (s.setCohort c x).fresh = s.fresh := rfl
@[simp] theorem State.setCohort_resetAsserted (c : CohortId) (x : Option Cohort) :
    (s.setCohort c x).resetAsserted = s.resetAsserted := rfl
@[simp] theorem State.setCohort_config (c : CohortId) (x : Option Cohort) :
    (s.setCohort c x).config = s.config := rfl
@[simp] theorem State.setCohort_ports (c : CohortId) (x : Option Cohort) :
    (s.setCohort c x).ports = s.ports := rfl
@[simp] theorem State.setCohort_arbiter (c : CohortId) (x : Option Cohort) :
    (s.setCohort c x).arbiter = s.arbiter := rfl
@[simp] theorem State.setCohort_executor (c : CohortId) (x : Option Cohort) :
    (s.setCohort c x).executor = s.executor := rfl
@[simp] theorem State.setCohort_families (c : CohortId) (x : Option Cohort) :
    (s.setCohort c x).families = s.families := rfl
@[simp] theorem State.setCohort_lots (c : CohortId) (x : Option Cohort) :
    (s.setCohort c x).lots = s.lots := rfl
@[simp] theorem State.setCohort_directory (c : CohortId) (x : Option Cohort) :
    (s.setCohort c x).directory = s.directory := rfl
@[simp] theorem State.setCohort_lanes (c : CohortId) (x : Option Cohort) :
    (s.setCohort c x).lanes = s.lanes := rfl
@[simp] theorem State.setCohort_openDay (c : CohortId) (x : Option Cohort) :
    (s.setCohort c x).openDay = s.openDay := rfl
@[simp] theorem State.setCohort_sheets (c : CohortId) (x : Option Cohort) :
    (s.setCohort c x).sheets = s.sheets := rfl
@[simp] theorem State.setCohort_queue (c : CohortId) (x : Option Cohort) :
    (s.setCohort c x).queue = s.queue := rfl
@[simp] theorem State.setCohort_nextJobId (c : CohortId) (x : Option Cohort) :
    (s.setCohort c x).nextJobId = s.nextJobId := rfl
@[simp] theorem State.setCohort_finished (c : CohortId) (x : Option Cohort) :
    (s.setCohort c x).finished = s.finished := rfl
@[simp] theorem State.setCohort_alerts (c : CohortId) (x : Option Cohort) :
    (s.setCohort c x).alerts = s.alerts := rfl
@[simp] theorem State.setCohort_nextSerial (c : CohortId) (x : Option Cohort) :
    (s.setCohort c x).nextSerial = s.nextSerial := rfl
@[simp] theorem State.setCohort_overflow (c : CohortId) (x : Option Cohort) :
    (s.setCohort c x).overflow = s.overflow := rfl

/-! ### The record read back -/

theorem State.port_setPort (p p' : Port) (x : PortState) :
    (s.setPort p x).port p' = if p = p' then x else s.port p' := by
  simp [State.port, State.setPort, PerPort.get_set]
@[simp] theorem State.port_setPort_self (p : Port) (x : PortState) : (s.setPort p x).port p = x := by
  simp [State.port_setPort]
@[simp] theorem State.port_setPort_ne {p p' : Port} (x : PortState) (h : p ≠ p') :
    (s.setPort p x).port p' = s.port p' := by simp [State.port_setPort, h]

theorem State.lane_setLane (i i' : Slot) (x : Lane) :
    (s.setLane i x).lane i' = if i = i' then x else s.lane i' := by
  simp [State.lane, State.setLane, Table.get_set]
@[simp] theorem State.lane_setLane_self (i : Slot) (x : Lane) : (s.setLane i x).lane i = x := by
  simp [State.lane_setLane]
@[simp] theorem State.lane_setLane_ne {i i' : Slot} (x : Lane) (h : i ≠ i') :
    (s.setLane i x).lane i' = s.lane i' := by simp [State.lane_setLane, h]

theorem State.sheet_setSheet (k k' : SheetNo) (x : Sheet) :
    (s.setSheet k x).sheet k' = if k = k' then x else s.sheet k' := by
  simp [State.sheet, State.setSheet, Table.get_set]
@[simp] theorem State.sheet_setSheet_self (k : SheetNo) (x : Sheet) : (s.setSheet k x).sheet k = x := by
  simp [State.sheet_setSheet]
@[simp] theorem State.sheet_setSheet_ne {k k' : SheetNo} (x : Sheet) (h : k ≠ k') :
    (s.setSheet k x).sheet k' = s.sheet k' := by simp [State.sheet_setSheet, h]

theorem State.cohort_setCohort (c c' : CohortId) (x : Option Cohort) :
    (s.setCohort c x).cohort c' = if c = c' then x else s.cohort c' := by
  simp [State.cohort, State.setCohort, Table.get_set]
@[simp] theorem State.cohort_setCohort_self (c : CohortId) (x : Option Cohort) : (s.setCohort c x).cohort c = x := by
  simp [State.cohort_setCohort]
@[simp] theorem State.cohort_setCohort_ne {c c' : CohortId} (x : Option Cohort) (h : c ≠ c') :
    (s.setCohort c x).cohort c' = s.cohort c' := by simp [State.cohort_setCohort, h]

theorem State.family_setFamily (f f' : FamilyId) (x : FamilyRecord) :
    (s.setFamily f x).family f' = if f = f' then x else s.family f' := by
  simp [State.family, State.setFamily, Table.get_set]
@[simp] theorem State.family_setFamily_self (f : FamilyId) (x : FamilyRecord) : (s.setFamily f x).family f = x := by
  simp [State.family_setFamily]
@[simp] theorem State.family_setFamily_ne {f f' : FamilyId} (x : FamilyRecord) (h : f ≠ f') :
    (s.setFamily f x).family f' = s.family f' := by simp [State.family_setFamily, h]

/-! ### Records of the other tables -/

@[simp] theorem State.lane_of_setPort (p : Port) (x : PortState) (j : Slot) :
    (s.setPort p x).lane j = s.lane j := rfl
@[simp] theorem State.sheet_of_setPort (p : Port) (x : PortState) (m : SheetNo) :
    (s.setPort p x).sheet m = s.sheet m := rfl
@[simp] theorem State.cohort_of_setPort (p : Port) (x : PortState) (d : CohortId) :
    (s.setPort p x).cohort d = s.cohort d := rfl
@[simp] theorem State.family_of_setPort (p : Port) (x : PortState) (g : FamilyId) :
    (s.setPort p x).family g = s.family g := rfl
@[simp] theorem State.lane_of_setPeriod (p : Port) (x : Period) (j : Slot) :
    (s.setPeriod p x).lane j = s.lane j := rfl
@[simp] theorem State.sheet_of_setPeriod (p : Port) (x : Period) (m : SheetNo) :
    (s.setPeriod p x).sheet m = s.sheet m := rfl
@[simp] theorem State.cohort_of_setPeriod (p : Port) (x : Period) (d : CohortId) :
    (s.setPeriod p x).cohort d = s.cohort d := rfl
@[simp] theorem State.family_of_setPeriod (p : Port) (x : Period) (g : FamilyId) :
    (s.setPeriod p x).family g = s.family g := rfl
@[simp] theorem State.lane_of_placeResponse (p : Port) (r : Response) (j : Slot) :
    (s.placeResponse p r).lane j = s.lane j := rfl
@[simp] theorem State.sheet_of_placeResponse (p : Port) (r : Response) (m : SheetNo) :
    (s.placeResponse p r).sheet m = s.sheet m := rfl
@[simp] theorem State.cohort_of_placeResponse (p : Port) (r : Response) (d : CohortId) :
    (s.placeResponse p r).cohort d = s.cohort d := rfl
@[simp] theorem State.family_of_placeResponse (p : Port) (r : Response) (g : FamilyId) :
    (s.placeResponse p r).family g = s.family g := rfl
@[simp] theorem State.port_of_setCredit (p : Port) (n : Nat) (p' : Port) :
    (s.setCredit p n).port p' = s.port p' := rfl
@[simp] theorem State.lane_of_setCredit (p : Port) (n : Nat) (j : Slot) :
    (s.setCredit p n).lane j = s.lane j := rfl
@[simp] theorem State.sheet_of_setCredit (p : Port) (n : Nat) (m : SheetNo) :
    (s.setCredit p n).sheet m = s.sheet m := rfl
@[simp] theorem State.cohort_of_setCredit (p : Port) (n : Nat) (d : CohortId) :
    (s.setCredit p n).cohort d = s.cohort d := rfl
@[simp] theorem State.family_of_setCredit (p : Port) (n : Nat) (g : FamilyId) :
    (s.setCredit p n).family g = s.family g := rfl
@[simp] theorem State.port_of_setGrant (p : Port) (p' : Port) :
    (s.setGrant p).port p' = s.port p' := rfl
@[simp] theorem State.lane_of_setGrant (p : Port) (j : Slot) :
    (s.setGrant p).lane j = s.lane j := rfl
@[simp] theorem State.sheet_of_setGrant (p : Port) (m : SheetNo) :
    (s.setGrant p).sheet m = s.sheet m := rfl
@[simp] theorem State.cohort_of_setGrant (p : Port) (d : CohortId) :
    (s.setGrant p).cohort d = s.cohort d := rfl
@[simp] theorem State.family_of_setGrant (p : Port) (g : FamilyId) :
    (s.setGrant p).family g = s.family g := rfl
@[simp] theorem State.port_of_setFamily (f : FamilyId) (x : FamilyRecord) (p : Port) :
    (s.setFamily f x).port p = s.port p := rfl
@[simp] theorem State.lane_of_setFamily (f : FamilyId) (x : FamilyRecord) (j : Slot) :
    (s.setFamily f x).lane j = s.lane j := rfl
@[simp] theorem State.sheet_of_setFamily (f : FamilyId) (x : FamilyRecord) (m : SheetNo) :
    (s.setFamily f x).sheet m = s.sheet m := rfl
@[simp] theorem State.cohort_of_setFamily (f : FamilyId) (x : FamilyRecord) (d : CohortId) :
    (s.setFamily f x).cohort d = s.cohort d := rfl
@[simp] theorem State.port_of_setLane (i : Slot) (x : Lane) (p : Port) :
    (s.setLane i x).port p = s.port p := rfl
@[simp] theorem State.sheet_of_setLane (i : Slot) (x : Lane) (m : SheetNo) :
    (s.setLane i x).sheet m = s.sheet m := rfl
@[simp] theorem State.cohort_of_setLane (i : Slot) (x : Lane) (d : CohortId) :
    (s.setLane i x).cohort d = s.cohort d := rfl
@[simp] theorem State.family_of_setLane (i : Slot) (x : Lane) (g : FamilyId) :
    (s.setLane i x).family g = s.family g := rfl
@[simp] theorem State.port_of_setSheet (k : SheetNo) (x : Sheet) (p : Port) :
    (s.setSheet k x).port p = s.port p := rfl
@[simp] theorem State.lane_of_setSheet (k : SheetNo) (x : Sheet) (j : Slot) :
    (s.setSheet k x).lane j = s.lane j := rfl
@[simp] theorem State.cohort_of_setSheet (k : SheetNo) (x : Sheet) (d : CohortId) :
    (s.setSheet k x).cohort d = s.cohort d := rfl
@[simp] theorem State.family_of_setSheet (k : SheetNo) (x : Sheet) (g : FamilyId) :
    (s.setSheet k x).family g = s.family g := rfl
@[simp] theorem State.port_of_setCohort (c : CohortId) (x : Option Cohort) (p : Port) :
    (s.setCohort c x).port p = s.port p := rfl
@[simp] theorem State.lane_of_setCohort (c : CohortId) (x : Option Cohort) (j : Slot) :
    (s.setCohort c x).lane j = s.lane j := rfl
@[simp] theorem State.sheet_of_setCohort (c : CohortId) (x : Option Cohort) (m : SheetNo) :
    (s.setCohort c x).sheet m = s.sheet m := rfl
@[simp] theorem State.family_of_setCohort (c : CohortId) (x : Option Cohort) (g : FamilyId) :
    (s.setCohort c x).family g = s.family g := rfl

theorem State.port_placeResponse (p q : Port) (r : Response) :
    (s.placeResponse p r).port q =
      if p = q then { s.port p with responses := (s.port p).responses ++ [r] } else s.port q := by
  simp [State.placeResponse, State.port_setPort]

theorem State.port_setPeriod (p q : Port) (x : Period) :
    (s.setPeriod p x).port q = if p = q then { s.port p with period := x } else s.port q := by
  simp [State.setPeriod, State.port_setPort]

theorem State.credit_setCredit (p q : Port) (n : Nat) :
    (s.setCredit p n).credit q = if p = q then n else s.credit q := by
  simp [State.credit, State.setCredit, PerPort.get_set]

@[simp] theorem State.credit_setPort (p q : Port) (x : PortState) :
    (s.setPort p x).credit q = s.credit q := rfl
@[simp] theorem State.credit_setGrant (p q : Port) : (s.setGrant p).credit q = s.credit q := rfl
@[simp] theorem State.grant_setGrant (p : Port) : (s.setGrant p).arbiter.grant = p := rfl
@[simp] theorem State.grant_setCredit (p : Port) (n : Nat) :
    (s.setCredit p n).arbiter.grant = s.arbiter.grant := rfl

/-! ### Power-on -/

@[simp] theorem State.reset_port (p : Port) : State.reset.port p = .reset := by cases p <;> rfl
@[simp] theorem State.reset_lane (i : Slot) : State.reset.lane i = .vacant := Table.get_fill _ i
@[simp] theorem State.reset_sheet (k : SheetNo) : State.reset.sheet k = .blank := Table.get_fill _ k
@[simp] theorem State.reset_cohort (c : CohortId) : State.reset.cohort c = none :=
  Table.get_fill _ c
@[simp] theorem State.reset_family (f : FamilyId) : State.reset.family f = ⟨none, none⟩ :=
  Table.get_fill _ f

end Sys2Proof.Machine
end

