-- ==== Sys2Proof/Laws/Ops.lean ====
section
/-! SUPPORT. For each shared operation, what it can do, said once. -/

namespace Sys2Proof.Machine

/-! ### The arbiter and the executor's answer -/

/-- A take touches the ports, the arbiter and the executor alone. -/
theorem State.take_frame (s : State) (p : Port) : ∃ ports arbiter executor,
    s.take p = { s with ports := ports, arbiter := arbiter, executor := executor } := by
  unfold State.take
  split
  · exact ⟨_, _, _, rfl⟩
  · dsimp only
    split
    · exact ⟨_, _, _, rfl⟩
    · exact ⟨_, _, _, rfl⟩

/-- The arbiter's choice touches the ports, the arbiter and the executor alone. -/
theorem State.arbitrate_frame (s : State) : ∃ ports arbiter executor,
    s.arbitrate = { s with ports := ports, arbiter := arbiter, executor := executor } := by
  unfold State.arbitrate
  dsimp only
  split
  · exact ⟨_, _, _, rfl⟩
  · split
    · exact s.take_frame _
    · split
      · obtain ⟨a, b, c, h⟩ := State.take_frame ((s.reloadCredit s.arbiter.grant).setGrant _) _
        exact ⟨a, b, c, h⟩
      · split
        · obtain ⟨a, b, c, h⟩ := State.take_frame (s.reloadCredit s.arbiter.grant) s.arbiter.grant
          exact ⟨a, b, c, h⟩
        · exact ⟨_, _, _, rfl⟩

/-- With the executor busy or RESET asserted the arbiter takes nothing (R115, R168). -/
theorem State.arbitrate_of_busy {s : State} (h : s.executor.isSome || s.resetAsserted) :
    s.arbitrate = s := by unfold State.arbitrate; simp [h]

/-- With no eligible port the grant stays and nothing is taken (R167, case 4). -/
theorem State.arbitrate_of_none_eligible {s : State} (h : ∀ p, s.eligible p = false) :
    s.arbitrate = s := by
  have hf : ∀ l : List Port, l.find? (fun _ => false) = none := fun l => by simp
  unfold State.arbitrate
  simp only [hf, h, Bool.false_and, Bool.false_eq_true, if_false]
  split <;> rfl

/-- A take from a port that holds a frame (R167, R168). -/
theorem State.take_of_cons {s : State} {p : Port} {f : Frame} {rest : List Frame}
    (h : (s.port p).commands = f :: rest) :
    s.take p =
      (if s.allowance p = 0 then
        { s.setPort p { s.port p with commands := rest } with executor := some ⟨p, f⟩ }
      else ({ s.setPort p { s.port p with commands := rest } with executor := some ⟨p, f⟩ } :
        State).setCredit p (s.credit p - 1)) := by
  unfold State.take; rw [h]

/-- An answer touches the ports, the arbiter and the executor alone. -/
theorem answer_frame (h : Held) (st : Status) (pl : List Byte) (s : State) :
    ∃ ports arbiter executor,
      answer h st pl s = { s with ports := ports, arbiter := arbiter, executor := executor } := by
  obtain ⟨a, b, c, e⟩ := State.arbitrate_frame (({ s with executor := none } : State).placeResponse
    h.port ⟨h.frame.code, h.frame.tag, st, pl⟩)
  exact ⟨a, b, c, e⟩

/-! ### Executor commands -/

/-- A command whose frame the executor does not hold changes nothing (log entry 3). -/
theorem runCommand_of_not_held {c : Command} {body : Held → State → Reply} {s : State}
    (h : ∀ x, s.executor = some x → x.frame.code ≠ c.code) : runCommand c body s = .next s := by
  unfold runCommand
  split
  · rfl
  · rename_i x hx
    simp [h x hx]

theorem executorCheck_of_ready {c : Command} {s : State} {h : Held} (r : s.Ready c h) :
    executorCheck s h c = none := by
  obtain ⟨-, hc, hr, hl⟩ := r
  unfold executorCheck
  rcases Bool.eq_false_or_eq_true s.config.configured with hcfg | hcfg
  · simp [hcfg, hr hcfg, hl]
  · have : c.access = .anyPort := by simpa [hcfg] using hc
    simp [hcfg, this, hl]

/-- A command that is ready is performed by its body, and its response is placed. -/
theorem runCommand_of_ready {c : Command} {body : Held → State → Reply} {s : State} {h : Held}
    (r : s.Ready c h) :
    runCommand c body s = match body h s with
      | .done s' st pl => .next (answer h st pl s')
      | .broken f => .fault f := by
  unfold runCommand
  simp only [r.1.1, r.1.2, executorCheck_of_ready r, ne_eq, not_true_eq_false, if_false]
  all_goals (cases body h s <;> rfl)

/-- A command whose frame fails a check of R169 is refused with that status. -/
theorem runCommand_of_refused {c : Command} {body : Held → State → Reply} {s : State} {h : Held}
    {st : Status} (hh : s.Holds c h) (hc : executorCheck s h c = some st) :
    runCommand c body s = .next (answer h st [] s) := by
  unfold runCommand; simp [hh.1, hh.2, hc]

/-- Everything an executor command can do. -/
theorem runCommand_cases {c : Command} {body : Held → State → Reply} {s t : State}
    (e : runCommand c body s = .next t) :
    t = s ∨ ∃ h, s.Holds c h ∧
      ((∃ st, executorCheck s h c = some st ∧ t = answer h st [] s) ∨
        executorCheck s h c = none ∧
          ∃ s' st pl, body h s = .done s' st pl ∧ t = answer h st pl s') := by
  unfold runCommand at e
  split at e
  · cases e; exact .inl rfl
  · rename_i h hh
    split at e
    · cases e; exact .inl rfl
    · rename_i hcode
      have hold : s.Holds c h := ⟨hh, not_not.mp hcode⟩
      split at e
      · rename_i st hc
        cases e; exact .inr ⟨h, hold, .inl ⟨st, hc, rfl⟩⟩
      · rename_i hc
        split at e
        · rename_i s' st pl hb
          cases e; exact .inr ⟨h, hold, .inr ⟨hc, s', st, pl, hb, rfl⟩⟩
        · cases e

/-! ### Ids (R97, R147) -/

/-- The number after one in range is in range. -/
theorem nextWord_range {n : Nat} : 1 ≤ nextWord n ∧ nextWord n ≤ 65535 := by
  unfold nextWord Config.maxWord; split <;> omega

/-- The k-th number after n. -/
theorem iterate_nextWord {n : Nat} (h1 : 1 ≤ n) (h2 : n ≤ 65535) (k : Nat) :
    nextWord^[k] n = (n - 1 + k) % 65535 + 1 := by
  induction k with
  | zero => simp; omega
  | succ k ih =>
    rw [Function.iterate_succ_apply', ih]
    unfold nextWord Config.maxWord
    split <;> omega

theorem skipHeld_eq_iterate (held : List Nat) (fuel n : Nat) :
    ∃ k, k ≤ fuel ∧ skipHeld held fuel n = nextWord^[k] n ∧
      (∀ m, m < k → nextWord^[m] n ∈ held) ∧ (k < fuel → nextWord^[k] n ∉ held) := by
  induction fuel generalizing n with
  | zero => exact ⟨0, le_refl _, rfl, by simp, by simp⟩
  | succ fuel ih =>
    by_cases hn : n ∈ held
    · obtain ⟨k, hk, he, hm, hs⟩ := ih (nextWord n)
      refine ⟨k + 1, by omega, by simp [skipHeld, hn, he, Function.iterate_succ_apply], ?_, ?_⟩
      · intro m hmk
        cases m with
        | zero => simpa using hn
        | succ m => rw [Function.iterate_succ_apply]; exact hm m (by omega)
      · intro h
        rw [Function.iterate_succ_apply]; exact hs (by omega)
    · exact ⟨0, by omega, by simp [skipHeld, hn], by simp, fun _ => by simpa using hn⟩

theorem advanceId_range (held : List Nat) (n : Nat) :
    1 ≤ advanceId held n ∧ advanceId held n ≤ 65535 := by
  obtain ⟨k, -, he, -, -⟩ := skipHeld_eq_iterate held held.length (nextWord n)
  have hr := @nextWord_range n
  have hi := iterate_nextWord hr.1 hr.2 k
  unfold advanceId
  rw [he, hi]
  omega

/-- The id counter never stops at a held id, as long as fewer than 65535 are held. -/
theorem advanceId_not_mem {held : List Nat} (hlen : held.length < 65535) (n : Nat) :
    advanceId held n ∉ held := by
  obtain ⟨k, hk, he, hm, hs⟩ := skipHeld_eq_iterate held held.length (nextWord n)
  have hr := @nextWord_range n
  unfold advanceId
  rw [he]
  by_cases hlt : k < held.length
  · exact hs hlt
  · intro hmem
    have hkl : k = held.length := by omega
    subst hkl
    have hsub : ∀ m ∈ Finset.range (held.length + 1), nextWord^[m] (nextWord n) ∈ held.toFinset := by
      intro m hmr
      rw [Finset.mem_range] at hmr
      rw [List.mem_toFinset]
      rcases Nat.lt_or_ge m held.length with h | h
      · exact hm m h
      · have : m = held.length := by omega
        rw [this]; exact hmem
    have hinj : Set.InjOn (fun m => nextWord^[m] (nextWord n)) (Finset.range (held.length + 1)) := by
      intro a ha b hb hab
      rw [Finset.mem_coe, Finset.mem_range] at ha hb
      simp only [iterate_nextWord hr.1 hr.2] at hab
      omega
    have := Finset.card_le_card_of_injOn _ hsub hinj
    have hc := held.toFinset_card_le
    rw [Finset.card_range] at this
    omega

/-- The counter goes on to the first number after the one given that is not held (R97, R147). -/
theorem advanceId_firstFree {held : List Nat} {n : Nat} (hlen : held.length < 65535) (h1 : 1 ≤ n)
    (h2 : n ≤ 65535) : FirstFreeAfter held n (advanceId held n) := by
  obtain ⟨k, -, he, hm, -⟩ := skipHeld_eq_iterate held held.length (nextWord n)
  have hn := advanceId_not_mem hlen n
  unfold advanceId at hn ⊢
  rw [he] at hn ⊢
  have key : ∀ j, nextWord^[j] (nextWord n) = (n + j) % 65535 + 1 := by
    intro j
    rw [← Function.iterate_succ_apply, iterate_nextWord h1 h2]
    congr 2; omega
  exact ⟨k, key k, hn, fun j hj => key j ▸ hm j hj⟩

/-- Only which numbers are held matters, not their order. -/
theorem firstFreeAfter_congr {a b : List Nat} {n m : Nat} (h : ∀ x, x ∈ a ↔ x ∈ b) :
    FirstFreeAfter a n m ↔ FirstFreeAfter b n m := by
  simp only [FirstFreeAfter, h]

/-! ### The work queue and the finished list -/

/-- A job that joins stands at the tail, QUEUED, with the next id (R96, R97). -/
theorem State.joinJob_eq (s : State) (k : JobKind) :
    s.joinJob k = { s with
      queue := s.queue ++ [⟨s.nextJobId, k, .queued⟩]
      nextJobId := advanceId ((s.queue ++ [(⟨s.nextJobId, k, .queued⟩ : Job)]).map Job.id ++
        s.finished.map JobOutcome.id) s.nextJobId } := rfl

/-- The id counter after a job has joined (R97). -/
theorem State.joinJob_firstFree {s : State} (k : JobKind) (q : QueueLaw s) :
    FirstFreeAfter (s.nextJobId :: s.heldJobIds) s.nextJobId (s.joinJob k).nextJobId := by
  rw [State.joinJob_eq]
  have h1 := q.jobs
  have h2 := q.finished
  refine (firstFreeAfter_congr fun x => ?_).mp
    (advanceId_firstFree ?_ q.nextInRange.1 q.nextInRange.2)
  · simp only [State.heldJobIds, List.map_append, List.mem_append, List.mem_cons, List.map_cons,
      List.map_nil, List.not_mem_nil, or_false]
    exact ⟨fun h => by rcases h with (h | h) | h <;> simp [h],
      fun h => by rcases h with h | h | h <;> simp [h]⟩
  · simp; omega

/-- The finished list holds at most 8 outcomes, the newest at the tail (R101). -/
theorem addOutcome_length {o : JobOutcome} {l : List JobOutcome} (h : l.length ≤ 8) :
    (addOutcome o l).length ≤ 8 := by
  unfold addOutcome Config.maxFinished; simp; omega

/-- While fewer than 8 outcomes are held none is dropped; at 8 the oldest is (R101). -/
theorem addOutcome_eq {o : JobOutcome} {l : List JobOutcome} (h : l.length ≤ 8) :
    addOutcome o l = (if l.length < 8 then l else l.tail) ++ [o] := by
  unfold addOutcome Config.maxFinished
  split
  · have : (l ++ [o]).length - 8 = 0 := by simp; omega
    rw [this]; rfl
  · have h8 : l.length = 8 := by omega
    have : (l ++ [o]).length - 8 = 1 := by simp; omega
    rw [this]
    cases l with
    | nil => simp at h8
    | cons x xs => rfl

/-- A step of a job touches the head job's state alone. -/
theorem State.setStage_frame (s : State) (st : Stage) :
    ∃ q, s.setStage st = { s with queue := q } ∧ q.tail = s.queue.tail ∧
      q.map (·.id) = s.queue.map (·.id) ∧ q.map (·.kind) = s.queue.map (·.kind) := by
  unfold State.setStage State.setHeadState
  split
  · rename_i h; exact ⟨s.queue, rfl, rfl, rfl, rfl⟩
  · rename_i j rest h; rw [h]; exact ⟨_, rfl, rfl, rfl, rfl⟩

/-- A step that makes its effect goes on to the next stage and position. -/
theorem stepTo_next {st : Stage} {r : Except Fault State} {t : State} (h : stepTo st r = .next t) :
    ∃ s', r = .ok s' ∧ t = s'.setStage st := by
  cases r with
  | error f => cases h
  | ok s' => cases h; exact ⟨s', rfl, rfl⟩

theorem State.stepping_of_dayAt {s : State} {d : Nat} {st : Stage} (h : s.DayAt d st) :
    ∃ j, s.stepping = some (j, st) ∧ j.kind = .day d := by
  obtain ⟨hr, j, rest, hq, hk, hs⟩ := h
  exact ⟨j, by simp [State.stepping, State.running, hr, hq, hs], hk⟩

theorem State.stepping_of_rebuildAt {s : State} {i : Slot} {n : Nat} (h : s.RebuildAt i n) :
    ∃ j, s.stepping = some (j, .replay n) ∧ j.kind = .rebuild i := by
  obtain ⟨hr, j, rest, hq, hk, hs⟩ := h
  exact ⟨j, by simp [State.stepping, State.running, hr, hq, hs], hk⟩

/-- While RESET is asserted the unit takes no step and starts no job (R115). -/
theorem State.unit_waits {s : State} (h : s.resetAsserted = true) :
    s.stepping = none ∧ s.startable = none := by
  simp [State.stepping, State.startable, h]

/-! ### Plan values (R2) -/

/-- Every value is present, in order. -/
theorem allSome_eq_some {α : Type} {l : List (Option α)} {vs : List α} :
    allSome l = some vs ↔ l = vs.map some := by
  induction l generalizing vs with
  | nil => cases vs <;> simp [allSome]
  | cons a l ih =>
    cases a with
    | none => cases vs <;> simp [allSome]
    | some x =>
      cases h : allSome l with
      | none =>
        simp only [allSome, h]
        cases vs with
        | nil => simp
        | cons v vs =>
          simp only [reduceCtorEq, List.map_cons, List.cons.injEq, false_iff, not_and]
          intro _ h2
          rw [ih.mpr h2] at h; cases h
      | some xs =>
        simp only [allSome, h]
        cases vs with
        | nil => simp
        | cons v vs => rw [ih.mp h]; simp [List.map_inj_right]

/-- A plan's values, one for each entry. -/
theorem planValues_eq_some {plan : List PlanEntry} {ds vs : List Int} :
    planValues plan ds = some vs ↔ (plan.map fun e => planValue ds e.shape) = vs.map some :=
  allSome_eq_some

/-! ### The alert list (R148 to R151) -/

/-- A raise touches the alert list, its serial, its indicator and the owed pulses alone. -/
theorem State.raise_frame (s : State) (r : Raise) : ∃ ports alerts nextSerial overflow,
    s.raise r = { s with ports := ports, alerts := alerts, nextSerial := nextSerial,
                         overflow := overflow } := by
  unfold State.raise
  split
  · exact ⟨_, _, _, _, rfl⟩
  · split
    · exact ⟨_, _, _, _, rfl⟩
    · split
      · exact ⟨_, _, _, _, rfl⟩
      · exact ⟨_, _, _, _, rfl⟩

theorem State.raiseAll_frame (s : State) (rs : List Raise) : ∃ ports alerts nextSerial overflow,
    s.raiseAll rs = { s with ports := ports, alerts := alerts, nextSerial := nextSerial,
                             overflow := overflow } := by
  unfold State.raiseAll
  induction rs generalizing s with
  | nil => exact ⟨_, _, _, _, rfl⟩
  | cons r rs ih =>
    obtain ⟨a, b, c, d, h⟩ := s.raise_frame r
    obtain ⟨a', b', c', d', h'⟩ := ih (s.raise r)
    rw [List.foldl_cons, h', h]
    exact ⟨_, _, _, _, rfl⟩

/-- A raise changes nothing of a port but the pulses it owes (R157). -/
theorem State.owePulses_port (s : State) (k : AlertKind) (p : Port) :
    (s.owePulses k).port p = (s.port p).owe k := by
  simp [State.owePulses, State.port]

/-! ### The end of a select period -/

/-- What arrives at a port touches the ports, the arbiter and the executor alone. -/
theorem State.arrive_frame (s : State) (p : Port) (x : Arrival) : ∃ ports arbiter executor,
    s.arrive p x = { s with ports := ports, arbiter := arbiter, executor := executor } := by
  have hrec : ∀ u : State, ∃ ports, u.receive p x = { u with ports := ports } := by
    intro u
    unfold State.receive
    split
    · exact ⟨_, rfl⟩
    · split <;> exact ⟨_, rfl⟩
    · split
      · exact ⟨_, rfl⟩
      · split
        · exact ⟨_, rfl⟩
        · split <;> exact ⟨_, rfl⟩
  unfold State.arrive
  split
  · exact ⟨_, _, _, rfl⟩
  · exact ⟨_, _, _, rfl⟩
  · split
    · exact ⟨_, _, _, rfl⟩
    · obtain ⟨q, hq⟩ := hrec (s.setPeriod p .idle)
      obtain ⟨a, b, c, h⟩ := State.arbitrate_frame ((s.setPeriod p .idle).receive p x)
      exact ⟨a, b, c, by rw [h, hq]; rfl⟩

end Sys2Proof.Machine
end

