-- ==== Sys2Proof/Laws/PerInstr.lean ====
section
/-! SUPPORT. The per-command family WellFormedOperands: a command is well formed exactly when its
operands are those of a possible select period and a possible frame (R159, R161). -/

namespace Sys2Proof.Laws.WellFormedOperands

open Sys2Proof.Machine

/-- The bits of a command's operands beyond whole bytes. -/
def looseBits : Instr → Nat
  | .frameArrival _ _ tail => tail.length
  | .powerOn | .warmReset | .resetRelease | .selectAssert _ | .responseSent _ | .unknownCommand
  | .linkClear _ _ _ | .identify | .status | .configure | .attentionSet | .jobStatus
  | .familySet | .familyGet | .lotLoad | .lotDrop | .lotGet | .laneEnrol | .laneRetire
  | .lotAssign | .laneSuspend | .laneResume | .readLane | .cohortSet | .cohortDissolve
  | .readCohort | .stripRead | .referenceRead | .readSheetEntry | .closeDay | .rebuild
  | .cancelJob | .readChart | .excludeDay | .listAlerts | .ackAlert | .dayJobStart
  | .deviateStep | .centerStep | .applyStep | .dayJobEnd | .rebuildStart | .replayStep
  | .rebuildEnd | .pulseStart _ | .pulseEnd _ => 0

/-- The frame payload among a command's operands. -/
def payload : Instr → List Byte
  | .linkClear _ _ payload => payload
  | .powerOn | .warmReset | .resetRelease | .selectAssert _ | .responseSent _
  | .frameArrival _ _ _ | .unknownCommand | .identify | .status | .configure | .attentionSet
  | .jobStatus | .familySet | .familyGet | .lotLoad | .lotDrop | .lotGet | .laneEnrol
  | .laneRetire | .lotAssign | .laneSuspend | .laneResume | .readLane | .cohortSet
  | .cohortDissolve | .readCohort | .stripRead | .referenceRead | .readSheetEntry | .closeDay
  | .rebuild | .cancelJob | .readChart | .excludeDay | .listAlerts | .ackAlert | .dayJobStart
  | .deviateStep | .centerStep | .applyStep | .dayJobEnd | .rebuildStart | .replayStep
  | .rebuildEnd | .pulseStart _ | .pulseEnd _ => []

/-- A command is well formed exactly when its loose bits are fewer than a byte and its payload fits a
frame of 1024 bytes. -/
def Statement (i : Instr) : Prop :=
  i.wf = true ↔ looseBits i < 8 ∧ (frameBytes 0x5C linkClearCode 0 0 (payload i)).length ≤ 1024

theorem frameBytes_length (m c t st : Byte) (p : List Byte) :
    (frameBytes m c t st p).length = 8 + p.length := by
  simp [frameBytes, u16]; omega

theorem of_plain {i : Instr} (h1 : i.wf = true) (h2 : looseBits i = 0) (h3 : payload i = []) :
    Statement i := by
  simp [Statement, h1, h2, h3, frameBytes_length]

theorem powerOn : Statement .powerOn := of_plain rfl rfl rfl
theorem warmReset : Statement .warmReset := of_plain rfl rfl rfl
theorem resetRelease : Statement .resetRelease := of_plain rfl rfl rfl
theorem selectAssert (p : Port) : Statement (.selectAssert p) := of_plain rfl rfl rfl
theorem responseSent (p : Port) : Statement (.responseSent p) := of_plain rfl rfl rfl
theorem frameArrival (p : Port) (x : List Byte) (y : List Bool) : Statement (.frameArrival p x y) := by
  simp [Statement, Instr.wf, looseBits, payload, frameBytes_length]
theorem unknownCommand : Statement .unknownCommand := of_plain rfl rfl rfl
theorem linkClear (p : Port) (x : Byte) (y : List Byte) : Statement (.linkClear p x y) := by
  have h : (Instr.linkClear p x y).wf = true ↔ y.length ≤ 1016 := by simp [Instr.wf]
  unfold Statement
  rw [h, frameBytes_length]
  simp only [looseBits, payload]
  omega
theorem identify : Statement .identify := of_plain rfl rfl rfl
theorem status : Statement .status := of_plain rfl rfl rfl
theorem configure : Statement .configure := of_plain rfl rfl rfl
theorem attentionSet : Statement .attentionSet := of_plain rfl rfl rfl
theorem jobStatus : Statement .jobStatus := of_plain rfl rfl rfl
theorem familySet : Statement .familySet := of_plain rfl rfl rfl
theorem familyGet : Statement .familyGet := of_plain rfl rfl rfl
theorem lotLoad : Statement .lotLoad := of_plain rfl rfl rfl
theorem lotDrop : Statement .lotDrop := of_plain rfl rfl rfl
theorem lotGet : Statement .lotGet := of_plain rfl rfl rfl
theorem laneEnrol : Statement .laneEnrol := of_plain rfl rfl rfl
theorem laneRetire : Statement .laneRetire := of_plain rfl rfl rfl
theorem lotAssign : Statement .lotAssign := of_plain rfl rfl rfl
theorem laneSuspend : Statement .laneSuspend := of_plain rfl rfl rfl
theorem laneResume : Statement .laneResume := of_plain rfl rfl rfl
theorem readLane : Statement .readLane := of_plain rfl rfl rfl
theorem cohortSet : Statement .cohortSet := of_plain rfl rfl rfl
theorem cohortDissolve : Statement .cohortDissolve := of_plain rfl rfl rfl
theorem readCohort : Statement .readCohort := of_plain rfl rfl rfl
theorem stripRead : Statement .stripRead := of_plain rfl rfl rfl
theorem referenceRead : Statement .referenceRead := of_plain rfl rfl rfl
theorem readSheetEntry : Statement .readSheetEntry := of_plain rfl rfl rfl
theorem closeDay : Statement .closeDay := of_plain rfl rfl rfl
theorem rebuild : Statement .rebuild := of_plain rfl rfl rfl
theorem cancelJob : Statement .cancelJob := of_plain rfl rfl rfl
theorem readChart : Statement .readChart := of_plain rfl rfl rfl
theorem excludeDay : Statement .excludeDay := of_plain rfl rfl rfl
theorem listAlerts : Statement .listAlerts := of_plain rfl rfl rfl
theorem ackAlert : Statement .ackAlert := of_plain rfl rfl rfl
theorem dayJobStart : Statement .dayJobStart := of_plain rfl rfl rfl
theorem deviateStep : Statement .deviateStep := of_plain rfl rfl rfl
theorem centerStep : Statement .centerStep := of_plain rfl rfl rfl
theorem applyStep : Statement .applyStep := of_plain rfl rfl rfl
theorem dayJobEnd : Statement .dayJobEnd := of_plain rfl rfl rfl
theorem rebuildStart : Statement .rebuildStart := of_plain rfl rfl rfl
theorem replayStep : Statement .replayStep := of_plain rfl rfl rfl
theorem rebuildEnd : Statement .rebuildEnd := of_plain rfl rfl rfl
theorem pulseStart (p : Port) : Statement (.pulseStart p) := of_plain rfl rfl rfl
theorem pulseEnd (p : Port) : Statement (.pulseEnd p) := of_plain rfl rfl rfl

end Sys2Proof.Laws.WellFormedOperands
end

