-- ==== Sys2Proof/Tests/Slice0.lean ====
section
/-! SUPPORT. Small checks of single steps, and for every statement with hypotheses a concrete state and
operands that meet them. -/

namespace Sys2Proof.Tests

set_option Elab.async false

open Sys2Proof.Machine

/-- The state after an outcome; State.reset for a fault, which no test relies on. -/
def after (o : Host.Outcome State Fault Refusal) : State :=
  match o with
  | .next s => s
  | .fault _ | .refused _ => State.reset

def settings : Settings := ⟨2, [⟨.single 0 .r, 20, 35, 8⟩, ⟨.diff 1 0 .g, 40, 70, 12⟩], 3, 2, 2, 2, 5, true⟩
def lot : LotRecord := ⟨4411, 0, [230, 620, 840, 580, 740, 1160], [some 5, none], [235, 120]⟩
def all : RoleSet := ⟨true, true, true⟩

/-- A TRACKING lane. -/
def lane : Lane :=
  { Lane.vacant with
    state := .tracking, identity := some ⟨214, 0⟩, family := some 0, effective := some 4411
    effectiveSince := some 90, quiet := 2, dormancy := 5
    params := [⟨10, ⟨.plus, 2⟩⟩, ⟨-6, ⟨.minus, 1⟩⟩] }

/-- A configured device with one family, one lot and one lane, in slot 1. -/
def base : State :=
  { State.reset with
    config := ⟨true, ⟨all, all, all⟩, ⟨2, 1, 0⟩, some 100⟩
    arbiter := ⟨.a, ⟨2, 1, 0⟩⟩
    openDay := some 100
    sheets := (State.reset.sheets.set 0 ⟨.opened, some 100, Table.fill 128 none⟩).set 1
      ⟨.opened, some 101, Table.fill 128 none⟩
    families := State.reset.families.set 0 ⟨some settings, none⟩
    lots := [lot]
    lanes := State.reset.lanes.set 1 lane
    directory := [(⟨214, 0⟩, 1)] }

def held (c : Command) (p : List Byte) : Held := ⟨.a, ⟨c.code, 0x55, p⟩⟩

/-- The executor holds a command of port A. -/
def holding (c : Command) (p : List Byte) (s : State) : State := { s with executor := some (held c p) }

/-- The status and payload of the newest response on port A after a command. -/
def reply (c : Command) (p : List Byte) (s : State) : Option (Status × List Byte) :=
  (((after (exec c.instr (holding c p s))).port .a).responses.getLast?).map fun r => (r.status, r.payload)

/-- The executor holds the command, and its frame passes the checks of R169. -/
abbrev Asks (c : Command) (p : List Byte) (s : State) : Prop := (holding c p s).Ready c (held c p)

/-! ### WellFormed refuses the ill-formed terms -/

theorem test_wf_tail : (Instr.frameArrival .a [] (List.replicate 7 true)).wf = true ∧
    (Instr.frameArrival .a [] (List.replicate 8 true)).wf = false := by decide +kernel

theorem test_wf_payload : (Instr.linkClear .b 0 (List.replicate 1016 0)).wf = true ∧
    (Instr.linkClear .b 0 (List.replicate 1017 0)).wf = false := by decide +kernel

/-! ### The arithmetic, on the spec's worked examples -/

theorem test_crc : crc [0x31, 0x32, 0x33, 0x34, 0x35, 0x36, 0x37, 0x38, 0x39] = 0x29B1 := by
  decide +kernel

/-- The table of section 4.10. -/
theorem test_rounding : smooth 2 37 (-4) = 11 ∧ smooth 2 (-37) 4 = -12 ∧ smooth 2 (-2) 0 = -2 ∧
    smooth 2 2 0 = 1 ∧ smooth 2 1 0 = 0 ∧ smooth 1 0 999 = 7992 ∧ smooth 3 0 999 = 1998 ∧
    smooth 1 (-15984) 999 = 0 := by decide +kernel

/-- The centers of section 5.8. -/
theorem test_medians : median [-49, -22, -31, -18, -27] = some (-27) ∧
    median [20, 5, -10, 7] = some 6 ∧ median [-10, -3, 4, 9] = some 0 ∧
    median [-12, -9, -4, 30] = some (-6) ∧ median [-40, -40, -40, -40] = some (-40) := by
  decide +kernel

/-- The REVERSE read of section 3.7. -/
theorem test_reverse : stripOrder true 4
    [1995, 2172, 4075, 1362, 1490, 1944, 590, 752, 1171, 236, 628, 845] =
    [236, 628, 845, 590, 752, 1171, 1362, 1490, 1944, 1995, 2172, 4075] := by decide +kernel

/-- Rows 2, 6 and 9 of the table of section 4.9. -/
theorem test_runs : stepRun 22 ⟨.plus, 1⟩ = ⟨.plus, 2⟩ ∧ stepRun (-48) ⟨.plus, 1⟩ = ⟨.minus, 1⟩ ∧
    stepRun 12 ⟨.minus, 2⟩ = ⟨.plus, 1⟩ ∧ stepRun 0 ⟨.minus, 255⟩ = ⟨.zero, 0⟩ ∧
    stepRun (-1) ⟨.minus, 255⟩ = ⟨.minus, 255⟩ := by decide +kernel

/-- Parameters 2, 7 and 8 of the table of section 4.9: WARNING, DRIFT and ACTION. -/
theorem test_verdicts : verdictOf ⟨.single 0 .b, 20, 35, 8⟩ 6 true 22 ⟨118, ⟨.plus, 2⟩⟩ = .warning ∧
    verdictOf ⟨.diff 2 1 .g, 40, 70, 12⟩ 6 true (-22) ⟨-208, ⟨.minus, 6⟩⟩ = .drift ∧
    verdictOf ⟨.diff 2 1 .b, 50, 90, 15⟩ 6 true (-92) ⟨-391, ⟨.minus, 2⟩⟩ = .action := by
  decide +kernel

/-- Ports A and B hold a command each; port A has the grant and so much credit. -/
def waiting (credit : Nat) : State :=
  { base with
    ports := ⟨{ PortState.reset with commands := [⟨1, 1, []⟩] },
      { PortState.reset with commands := [⟨1, 2, []⟩] }, .reset⟩
    arbiter := ⟨.a, ⟨credit, 1, 0⟩⟩ }

/-- The granted port while it has credit, the next port when the credit is spent (R167). -/
theorem test_arbiter : (waiting 2).arbitrate.executor = some ⟨.a, ⟨1, 1, []⟩⟩ ∧
    (waiting 2).arbitrate.arbiter = ⟨.a, ⟨1, 1, 0⟩⟩ ∧
    (waiting 0).arbitrate.executor = some ⟨.b, ⟨1, 2, []⟩⟩ ∧
    (waiting 0).arbitrate.arbiter = ⟨.b, ⟨2, 0, 0⟩⟩ := by decide +kernel

/-! ### Frames -/

def identifyFrame : List Byte := frameBytes 0x5C 0x01 0x55 0 []

theorem test_frames : classify identifyFrame [] = .good ⟨0x01, 0x55, []⟩ ∧
    classify (0x5D :: identifyFrame.drop 1) [] = .bad .marker 0x01 0x55 ∧
    classify identifyFrame [false] = .bad .partialBits 0x01 0x55 ∧
    classify (identifyFrame.take 7) [] = .bad .length 0x01 0x55 ∧
    classify (identifyFrame.take 5) [] = .bad .length 0 0 ∧
    classify (identifyFrame.take 7 ++ [0]) [] = .bad .crc 0x01 0x55 ∧
    classify (frameBytes 0x5C 0x01 0x55 1 []) [] = .bad .status 0x01 0x55 ∧
    classify [0xFF, 0xFF] [true] = .idle ∧ classify [] [] = .idle := by decide +kernel

/-- A select period of port A is under way. -/
def selected (sending : Bool) (s : State) : State :=
  s.setPort .a { s.port .a with period := .active sending }

def placed : Response := ⟨0x01, 0x11, .ok, [7]⟩

/-- Port A's response buffer and command buffer hold so much. -/
def loaded (commands responses : Nat) (s : State) : State :=
  s.setPort .a { s.port .a with
    commands := List.replicate commands ⟨0x02, 0, []⟩, responses := List.replicate responses placed }

/-- The ill-framed, the idle, the accepted, the refused and the dropped frame. -/
theorem witness_frameArrivalOutcome :
    (selected false base).resetAsserted = false ∧ ((selected false base).port .a).period = .active false ∧
    classify [0xFF] [true] = .idle ∧ classify [0x5C] [] = .bad .length 0 0 ∧
    (((selected false base).setPeriod .a .discarded).port .a).period = .discarded ∧
    ((after (exec (.frameArrival .a identifyFrame [])
      ((selected false base).setPeriod .a .discarded))).port .a).commands = [] ∧
    classify identifyFrame [] = .good ⟨0x01, 0x55, []⟩ ∧ (0x01 : Byte) ≠ 0x06 ∧
    ((after (exec (.frameArrival .a [0x5C] []) (selected false (loaded 0 3 base)))).port .a).responses
      = List.replicate 3 placed ++ [⟨0, 0, .frameError, [3]⟩] ∧
    ((after (exec (.frameArrival .a identifyFrame [])
      (selected false (loaded 3 4 base)))).port .a).commands.length = 4 ∧
    ((after (exec (.frameArrival .a identifyFrame [])
      (selected false (holding .status [] (loaded 4 2 base))))).port .a).responses.getLast?
      = some ⟨0x01, 0x55, .portFull, []⟩ ∧
    ((after (exec (.frameArrival .a identifyFrame [])
      (selected false (holding .status [] (loaded 4 3 base))))).port .a).responses
      = List.replicate 3 placed := by
  (repeat' apply And.intro) <;> decide +kernel

theorem witness_linkClearEffect :
    (List.replicate 1016 (0 : Byte)).length ≤ 1016 ∧
    ((selected false (loaded 4 4 base)).port .a).period = .active false ∧
    (selected false (loaded 4 4 base)).eligible .b = false ∧
    (selected false (loaded 4 4 base)).eligible .c = false ∧
    ((after (exec (.linkClear .a 9 []) (selected false (loaded 4 4 base)))).port .a).responses
      = [⟨0x06, 9, .ok, []⟩] := by
  (repeat' apply And.intro) <;> decide +kernel

theorem witness_selectPeriodSendsOldestResponse :
    base.resetAsserted = false ∧ (base.port .a).period = .idle ∧
    ((selected true (loaded 0 2 base)).port .a).period = .active true ∧
    ((selected true (loaded 0 2 base)).port .a).responses = [placed, placed] ∧
    (after (exec (.selectAssert .a) (loaded 0 1 base))).xdoByte .a 0 = 0xC5 ∧
    (after (exec (.selectAssert .a) base)).xdoByte .a 0 = 0xFF ∧
    ((after (exec (.responseSent .a) (selected true (loaded 0 2 base)))).port .a).responses = [placed] ∧
    ((after (exec (.frameArrival .a [] []) (selected true (loaded 0 2 base)))).port .a).responses
      = [placed, placed] := by
  (repeat' apply And.intro) <;> decide +kernel

/-! ### Power, reset and the step -/

theorem witness_stepTakesFrontCommand : base.pending = [] ∧
    (after (step { base with pending := [.warmReset, .powerOn] })).pending = [.powerOn] ∧
    (after (step { base with pending := [.warmReset, .powerOn] })).resetAsserted = true := by
  (repeat' apply And.intro) <;> decide +kernel

theorem witness_execKeepsWaitingCommands : ∃ t, exec .powerOn base = .next t := ⟨_, rfl⟩

/-- A DAY job that runs, at a stage, with an entry of slot 1. -/
def evaluating (st : Stage) (e : Option StripEntry) : State :=
  { base with
    queue := [⟨5, .day 99, .running st⟩]
    nextJobId := 6
    sheets := base.sheets.set 2 ⟨.evaluating, some 99, (Table.fill 128 none).set 1 e⟩ }

/-- A REBUILD job of slot 1, in a state. -/
def rebuilding (st : JobState) (s : State) : State :=
  { s with queue := [⟨5, .rebuild 1, st⟩], nextJobId := 6 }

/-- Day 99 is EVALUATING and day 97 waits in a sheet of a higher number; the next ids are 65535 and 1. -/
def twoDays : State :=
  { (evaluating (.center 3) none).setSheet 3 ⟨.closing, some 97, Table.fill 128 none⟩ with
    nextJobId := 65535 }

theorem witness_warmResetEffect : (evaluating (.center 3) none).resetAsserted = false ∧
    (after (exec .warmReset (evaluating (.center 3) none))).queue = [⟨6, .day 99, .queued⟩] ∧
    twoDays.resetAsserted = false ∧ twoDays.nextJobId ≤ 65535 ∧
    (after (exec .warmReset twoDays)).queue = [⟨65535, .day 97, .queued⟩, ⟨1, .day 99, .queued⟩] ∧
    (after (exec .warmReset twoDays)).nextJobId = 2 ∧
    ((after (exec .warmReset (evaluating (.center 3) none))).sheet 2).state = .closing ∧
    ((after (exec .warmReset (rebuilding (.running (.replay 0)) base))).lane 1).chart = .unsettled := by
  (repeat' apply And.intro) <;> decide +kernel

theorem witness_resetHoldsTheBlock :
    (after (exec .warmReset (selected true base))).resetAsserted = true ∧
    ((after (exec .warmReset (selected true base))).port .a).period ≠ .idle ∧
    ((after (exec .warmReset base)).port .a).period = .idle ∧
    (∀ p ∈ [Port.a, .b, .c], ((after (exec .warmReset base)).port p).commands = []) ∧
    (after (exec .resetRelease (after (exec .warmReset base)))).resetAsserted = false := by
  (repeat' apply And.intro) <;> decide +kernel

/-! ### Arbiter and executor -/

theorem witness_unknownCommandAnswered :
    ({ base with executor := some ⟨.a, ⟨0x07, 1, []⟩⟩ } : State).executor = some ⟨.a, ⟨0x07, 1, []⟩⟩ ∧
    (0x07 : Byte) ≠ 0x06 ∧ (∀ c ∈ Command.all, c.code ≠ 0x07) ∧
    ((after (exec .unknownCommand
      ({ base with executor := some ⟨.a, ⟨0x07, 1, []⟩⟩ } : State))).port .a).responses
      = [⟨0x07, 1, .unknownCommand, []⟩] := by
  (repeat' apply And.intro) <;> decide +kernel

/-- The granted port within its allowance, the next port, the one after it, the granted port again,
no port; and a port with a frame to take. -/
theorem witness_arbiterChoosesByR167 : (waiting 2).executor = none ∧ (waiting 2).resetAsserted = false ∧
    ((waiting 2).eligible .a = true ∧ 0 < (waiting 2).credit .a) ∧
    ((waiting 0).credit .a = 0 ∧ (waiting 0).allowance .a ≠ 0 ∧ nextPorts .a = [.b, .c] ∧ nextPorts .b = [.c, .a] ∧ nextPorts .c = [.a, .b] ∧
      (waiting 0).eligible .b = true) ∧
    (({ waiting 0 with arbiter := ⟨.c, ⟨0, 0, 0⟩⟩ } : State).eligible .c = false ∧
      ({ (waiting 0).setPort .a .reset with arbiter := ⟨.c, ⟨0, 0, 0⟩⟩ } : State).eligible .a = false ∧
      ({ (waiting 0).setPort .a .reset with arbiter := ⟨.c, ⟨0, 0, 0⟩⟩ } : State).eligible .b = true) ∧
    (((waiting 0).setPort .b .reset).eligible .a = true ∧
      ((waiting 0).setPort .b .reset).eligible .b = false ∧
      ((waiting 0).setPort .b .reset).eligible .c = false) ∧
    (base.eligible .a = false ∧ base.eligible .b = false ∧ base.eligible .c = false) ∧
    ((waiting 0).port .a).commands = [⟨1, 1, []⟩] := by
  (repeat' apply And.intro) <;> decide +kernel

theorem witness_answerPlacesOneResponse :
    (answer (held .status []) .ok [] base).executor = none ∧
    (answer (held .status []) .ok [] (waiting 2)).executor = some ⟨.a, ⟨1, 1, []⟩⟩ := by
  (repeat' apply And.intro) <;> decide +kernel

theorem witness_executorChecksInOrder :
    ((holding .readLane [0, 1, 0, 0] State.reset).Holds .readLane (held .readLane [0, 1, 0, 0]) ∧
      State.reset.config.configured = false ∧ Command.readLane.access ≠ .anyPort ∧
      reply .readLane [0, 1, 0, 0] State.reset = some (.notConfigured, [])) ∧
    (base.config.configured = true ∧ Command.closeDay.access.allows ⟨true, true, false⟩ = false ∧
      reply .closeDay [0, 100]
        { base with config := { base.config with roles := ⟨⟨true, true, false⟩, all, all⟩ } }
        = some (.role, [])) ∧
    ((held .closeDay [0]).frame.payload.length ≠ Command.closeDay.length [0] ∧
      reply .closeDay [0] base = some (.badLength, [])) ∧
    (∀ h, base.executor = some h → h.frame.code ≠ Command.status.code) :=
  ⟨by decide +kernel, by decide +kernel, by decide +kernel, fun _ h => by cases h⟩

/-- Port A in PULSE mode with one pulse owed. -/
def owing (pulsing : Bool) : State :=
  base.setPort .a { base.port .a with mode := .pulse, owed := 1, pulsing := pulsing }

theorem witness_linesAndPulses : (owing false).resetAsserted = false ∧
    ((owing false).port .a).mode = .pulse ∧ 0 < ((owing false).port .a).owed ∧
    ((owing false).port .a).pulsing = false ∧ ((owing true).port .a).pulsing = true ∧
    (after (exec (.pulseStart .a) (owing false))).atn .a = true ∧
    (after (exec (.pulseEnd .a) (owing true))).atn .a = false ∧
    ((after (exec (.pulseEnd .a) (owing true))).port .a).owed = 0 := by
  (repeat' apply And.intro) <;> decide +kernel

/-! ### The device -/

theorem witness_identifyAnswer : Asks .identify [] State.reset ∧
    reply .identify [] State.reset = some (.ok, [0x4E, 0x42, 0x01, 0x28, 3, 128, 16, 4, 32, 32, 8, 64,
      0x00, 0xFF, 0x0F, 0xF0, 0x55, 0xAA, 0x33, 0xCC]) := by
  (repeat' apply And.intro) <;> decide +kernel

theorem witness_statusReport : Asks .status [] base ∧
    reply .status [] base = some (.ok, [1, 0, 100, 1, 0, 100, 1, 0, 101, 0, 0, 0, 0, 0, 0,
      0, 0, 0, 0xFF, 0, 0, 7]) := by
  (repeat' apply And.intro) <;> decide +kernel

theorem witness_configureOutcome :
    (Asks .configure [7, 2, 1, 15, 1, 0, 0xFF, 0xFD] State.reset ∧
      reply .configure [7, 2, 1, 15, 1, 0, 0xFF, 0xFD] State.reset = some (.ok, [0xFF, 0xFD, 7])) ∧
    (Asks .configure [7, 2, 1, 15, 1, 0, 0xFF, 0xFE] State.reset ∧
      reply .configure [7, 2, 1, 15, 1, 0, 0xFF, 0xFE] State.reset = some (.badValue, []) ∧
      reply .configure [8, 2, 1, 15, 1, 0, 0, 1] State.reset = some (.badValue, []) ∧
      reply .configure [7, 2, 1, 16, 1, 0, 0, 1] State.reset = some (.badValue, []) ∧
      reply .configure [7, 2, 1, 15, 1, 0, 0, 0] State.reset = some (.badValue, [])) ∧
    (base.config.configured = true ∧ Asks .configure [7, 2, 1, 15, 1, 0, 0, 1] base ∧
      reply .configure [7, 2, 1, 15, 1, 0, 0, 1] base = some (.onceOnly, [])) := by
  (repeat' apply And.intro) <;> decide +kernel

theorem witness_attentionSetOutcome : Asks .attentionSet [2, 3] base ∧
    reply .attentionSet [2, 3] base = some (.ok, [2, 3]) ∧
    reply .attentionSet [0, 1] base = some (.ok, [0, 1]) ∧
    Asks .attentionSet [3, 1] base ∧ reply .attentionSet [3, 1] base = some (.badValue, []) ∧
    reply .attentionSet [1, 0] base = some (.badValue, []) ∧
    reply .attentionSet [1, 4] base = some (.badValue, []) := by
  (repeat' apply And.intro) <;> decide +kernel

/-- A queue of a running job and a queued one, and one finished job. -/
def jobs (st : Stage) : State :=
  { evaluating st none with
    queue := [⟨5, .day 99, .running st⟩, ⟨6, .rebuild 1, .queued⟩], nextJobId := 7
    finished := [⟨4, .rebuild 1, .aborted⟩] }

theorem witness_jobStatusOutcome : Asks .jobStatus [0, 5] (jobs (.deviate 127)) ∧
    (jobs (.deviate 127)).queue
      = [] ++ ⟨5, .day 99, .running (.deviate 127)⟩ :: [⟨6, .rebuild 1, .queued⟩] ∧
    reply .jobStatus [0, 5] (jobs (.deviate 127)) = some (.ok, [0, 5, 0, 0, 99, 1, 0, 127]) ∧
    reply .jobStatus [0, 5] (jobs (.center 15)) = some (.ok, [0, 5, 0, 0, 99, 1, 1, 15]) ∧
    reply .jobStatus [0, 5] (jobs (.apply 0)) = some (.ok, [0, 5, 0, 0, 99, 1, 2, 0]) ∧
    ((jobs .applied).queue.head?.map (·.state)) = some (.running .applied) ∧
    reply .jobStatus [0, 5] (rebuilding (.running (.replay 2)) base)
      = some (.ok, [0, 5, 1, 0, 1, 1, 3, 2]) ∧
    reply .jobStatus [0, 6] (jobs .applied) = some (.ok, [0, 6, 1, 0, 1, 0, 1, 0xFF]) ∧
    reply .jobStatus [0, 4] (jobs .applied) = some (.ok, [0, 4, 1, 0, 1, 4, 0xFF, 0xFF]) ∧
    (∀ j ∈ (jobs .applied).queue, j.id ≠ 9) ∧ (∀ o ∈ (jobs .applied).finished, o.id ≠ 9) ∧
    reply .jobStatus [0, 9] (jobs .applied) = some (.notFound, []) := by
  (repeat' apply And.intro) <;> decide +kernel

/-! ### Families and lots -/

theorem witness_sameStructure :
    settings.plan[1]? = some ⟨.diff 1 0 .g, 40, 70, 12⟩ ∧ settings.plan[0]? = some ⟨.single 0 .r, 20, 35, 8⟩ ∧
    settings.layout = { settings with plan := [⟨.single 0 .r, 1, 2, 3⟩, ⟨.diff 1 0 .g, 4, 5, 6⟩] }.layout ∧
    settings.layout ≠ { settings with plan := [⟨.single 0 .b, 20, 35, 8⟩, ⟨.diff 1 0 .g, 40, 70, 12⟩] }.layout
    := by
  (repeat' apply And.intro) <;> decide +kernel

/-- FAMILY SET of `settings` for a family, with a channel for entry 1 and a W for entry 0. -/
def settingsBytes (family channel w : Byte) : List Byte :=
  [family, 2, 3, 2, 2, 2, 5, 1, 2, 0, 0, 0xFF, 0, 0, w, 0, 35, 0, 8, 1, 1, 0, channel, 0, 40, 0, 70, 0, 12]

theorem test_settings : settingsOf (settingsBytes 0 1 20) = some settings ∧
    settings.bytes = (settingsBytes 0 1 20).drop 1 ∧ settingsOf (settingsBytes 0 3 20) = none ∧
    settingsOf (settingsBytes 0 1 35) = none ∧ settingsOf (settingsBytes 0 1 34) ≠ none := by
  decide +kernel

theorem witness_familySetOutcome : Asks .familySet (settingsBytes 4 1 20) base ∧
    reply .familySet (settingsBytes 4 1 20) base = some (.badValue, []) ∧
    Asks .familySet (settingsBytes 3 1 35) base ∧
    reply .familySet (settingsBytes 3 1 35) base = some (.badValue, []) ∧
    Asks .familySet (settingsBytes 3 1 20) base ∧ (base.family 3).active = none ∧
    reply .familySet (settingsBytes 3 1 20) base = some (.ok, [3, 0]) ∧
    (base.family 0).active = some settings ∧ (∃ l ∈ base.lots, l.family = 0) ∧
    reply .familySet (settingsBytes 0 2 20) base = some (.inUse, []) ∧
    reply .familySet (settingsBytes 0 1 21) base = some (.ok, [0, 1]) := by
  (repeat' apply And.intro) <;> decide +kernel

theorem witness_familyGetReport :
    (settingsBytes 0 1 20).length = 9 + 10 * byteAt (settingsBytes 0 1 20) 8 ∧
    Asks .familyGet [4] base ∧ reply .familyGet [4] base = some (.badValue, []) ∧
    Asks .familyGet [3] base ∧ (base.family 3).active = none ∧
    reply .familyGet [3] base = some (.ok, [3, 0, 0, 0xFF]) ∧
    Asks .familyGet [0] base ∧ (base.family 0).active = some settings ∧
    reply .familyGet [0] base = some (.ok, [0, 1, 1, 0] ++ settings.bytes) := by
  (repeat' apply And.intro) <;> decide +kernel

/-- LOT LOAD of the densities of `lot`, with one shift, on a parameter. -/
def lotBytes (code family param : Byte) : List Byte :=
  [0x11, code, family, 2, 1, 0, 230, 0x02, 0x6C, 0x03, 0x48, 0x02, 0x44, 0x02, 0xE4, 0x0F, 0xA0,
    param, 0xFE, 0x0C]

/-- Pending settings of another structure. -/
def restructuring : State :=
  { base with families := base.families.set 0 ⟨some settings, some { settings with patchCount := 3 }⟩ }

/-- Every entry of the plan names patches that the strip has. -/
theorem witness_lotLoadOutcome :
    (planValue [1, 2, 3, 40, 50, 60] (.single 1 .r) = some 40 ∧
      planValue [1, 2, 3, 40, 50, 60] (.diff 0 1 .b) = some (-57) ∧
      planValues settings.plan [1, 2, 3, 40, 50, 60] = some [1, 48]) ∧
    (Asks .lotLoad (lotBytes 0x96 4 0) base ∧
      reply .lotLoad (lotBytes 0x96 4 0) base = some (.badValue, [])) ∧
    ((base.family 3).active = none ∧
      reply .lotLoad (lotBytes 0x96 3 0) base = some (.unknownFamily, [])) ∧
    ((restructuring.family 0).pending = some { settings with patchCount := 3 } ∧
      reply .lotLoad (lotBytes 0x96 0 0) restructuring = some (.busy, [])) ∧
    (Asks .lotLoad [0x11, 0x96, 0, 1, 0, 0, 0, 0, 0, 0, 0] base ∧
      reply .lotLoad [0x11, 0x96, 0, 1, 0, 0, 0, 0, 0, 0, 0] base = some (.layout, [])) ∧
    (reply .lotLoad (lotBytes 0x96 0 2) base = some (.badValue, [])) ∧
    ((∃ l ∈ base.lots, l.code = 4411) ∧
      reply .lotLoad (lotBytes 0x3B 0 0) base = some (.duplicate, [])) ∧
    ((∀ l ∈ base.lots, l.code ≠ 4502) ∧ base.lots.length < 32 ∧ Asks .lotLoad (lotBytes 0x96 0 1) base ∧
      shiftPairs (lotBytes 0x96 0 1) = [(1, -500)] ∧
      wordsAt (lotBytes 0x96 0 1) 5 6 = [230, 620, 840, 580, 740, 4000] ∧
      reply .lotLoad (lotBytes 0x96 0 1) base = some (.ok, [0x11, 0x96, 2, 0, 230, 0xFE, 0x84])) ∧
    (32 ≤ ({ base with lots := List.replicate 32 lot } : State).lots.length ∧
      reply .lotLoad (lotBytes 0x96 0 1) { base with lots := List.replicate 32 lot } = some (.full, []))
    := by
  (repeat' apply And.intro) <;> decide +kernel

theorem witness_lotDropAndLotGetOutcome :
    (Asks .lotDrop [0x11, 0x96] base ∧ (∀ l ∈ base.lots, l.code ≠ 4502) ∧
      reply .lotDrop [0x11, 0x96] base = some (.unknownLot, [])) ∧
    (Asks .lotDrop [0x11, 0x3B] base ∧ (base.lane 1).state ≠ .vacant ∧
      (base.lane 1).effective = some 4411 ∧ reply .lotDrop [0x11, 0x3B] base = some (.inUse, [])) ∧
    (reply .lotDrop [0x11, 0x3B] { base with lanes := State.reset.lanes } = some (.ok, [])) ∧
    (Asks .lotGet [0, 0] base ∧ reply .lotGet [0, 0] base = some (.ok, [1, 0x11, 0x3B, 0])) ∧
    (reply .lotGet [0x11, 0x96] base = some (.unknownLot, [])) ∧
    (base.findLot 4411 = some lot ∧ reply .lotGet [0x11, 0x3B] base = some (.ok,
      [0x11, 0x3B, 0, 2, 2, 0, 230, 0x02, 0x6C, 0x03, 0x48, 0x02, 0x44, 0x02, 0xE4, 0x04, 0x88,
        1, 0, 5, 0, 235, 0, 0, 0, 0, 120, 1, 0, 0])) := by
  (repeat' apply And.intro) <;> decide +kernel

/-! ### Lanes -/

theorem witness_laneEnrolOutcome :
    (Asks .laneEnrol [0, 0, 0, 0] base ∧ reply .laneEnrol [0, 0, 0, 0] base = some (.badValue, []) ∧
      reply .laneEnrol [0, 9, 4, 0] base = some (.badValue, []) ∧
      reply .laneEnrol [0, 9, 3, 4] base = some (.badValue, [])) ∧
    ((base.family 3).active = none ∧ reply .laneEnrol [0, 9, 3, 3] base = some (.unknownFamily, [])) ∧
    ((⟨214, 0⟩, 1) ∈ base.directory ∧ reply .laneEnrol [0, 214, 0, 0] base = some (.duplicate, [])) ∧
    ((base.lane 0).state = .vacant ∧ base.findLane ⟨9, 3⟩ = none ∧
      Asks .laneEnrol [0, 9, 3, 0] base ∧ reply .laneEnrol [0, 9, 3, 0] base = some (.ok, [0])) ∧
    reply .laneEnrol [0, 9, 3, 0] { base with lanes := Table.fill 128 lane } = some (.full, []) := by
  (repeat' apply And.intro) <;> decide +kernel

theorem witness_laneRetireOutcome :
    (Asks .laneRetire [128] base ∧ reply .laneRetire [128] base = some (.badValue, [])) ∧
    (Asks .laneRetire [127] base ∧ (base.lane 127).state = .vacant ∧
      reply .laneRetire [127] base = some (.unknownLane, [])) ∧
    ((rebuilding (.running (.replay 0)) base).rebuildRunning 1 = true ∧
      (evaluating .applied none).dayRunning = true ∧
      reply .laneRetire [1] (evaluating .applied none) = some (.busy, []) ∧
      reply .laneRetire [1] (rebuilding (.running (.replay 0)) base) = some (.busy, [])) ∧
    (Asks .laneRetire [1] (rebuilding .queued base) ∧ (base.lane 1).state ≠ .vacant ∧
      reply .laneRetire [1] (rebuilding .queued base) = some (.ok, [])) := by
  (repeat' apply And.intro) <;> decide +kernel

/-- A second lot of the same family, and one of another family. -/
def lots3 : State := { base with lots := [lot, { lot with code := 4502 }, { lot with code := 4600, family := 1 }] }

/-- Slot 1 with a lane of choice. -/
def withLane (l : Lane) (s : State) : State := s.setLane 1 l

theorem witness_lotAssignOutcome :
    (Asks .lotAssign [128, 0, 0] base ∧ reply .lotAssign [128, 0, 0] base = some (.badValue, [])) ∧
    ((base.lane 0).state = .vacant ∧ reply .lotAssign [0, 0, 0] base = some (.unknownLane, [])) ∧
    (base.findLot 0 = none ∧ reply .lotAssign [1, 0, 0] base = some (.unknownLot, [])) ∧
    (lots3.findLot 4600 = some { lot with code := 4600, family := 1 } ∧
      reply .lotAssign [1, 0x11, 0xF8] lots3 = some (.lotMismatch, [])) ∧
    (Asks .lotAssign [1, 0x11, 0x3B] base ∧ (base.lane 1).family = some 0 ∧
      reply .lotAssign [1, 0x11, 0x3B] base = some (.ok, [0, 0x11, 0x3B, 0, 0])) ∧
    (reply .lotAssign [1, 0x11, 0x96] (withLane { lane with pendingLot := some 4502 } lots3)
      = some (.ok, [1, 0x11, 0x3B, 0x11, 0x96])) ∧
    reply .lotAssign [1, 0x11, 0x96] lots3 = some (.ok, [2, 0x11, 0x3B, 0x11, 0x96]) := by
  (repeat' apply And.intro) <;> decide +kernel

/-- A SUSPENDED lane that was TRACKING. -/
def resting : Lane := { lane with state := .suspended, suspendedFrom := some .tracking, quiet := 0 }

theorem witness_suspendAndResumeOutcome :
    (Asks .laneSuspend [128] base ∧ reply .laneSuspend [128] base = some (.badValue, [])) ∧
    reply .laneSuspend [0] base = some (.unknownLane, []) ∧
    (Asks .laneSuspend [1] base ∧ (base.lane 1).state ≠ .suspended ∧
      reply .laneSuspend [1] base = some (.ok, [3])) ∧
    ((withLane resting base).lane 1 = resting ∧
      reply .laneSuspend [1] (withLane resting base) = some (.ok, [3])) ∧
    (Asks .laneResume [128] base ∧ reply .laneResume [128] base = some (.badValue, [])) ∧
    reply .laneResume [0] base = some (.unknownLane, []) ∧
    reply .laneResume [1] base = some (.badValue, []) ∧
    (Asks .laneResume [1] (withLane resting base) ∧ resting.family = some 0 ∧
      reply .laneResume [1] (withLane resting base) = some (.ok, [3]) ∧
      ((after (exec .laneResume (holding .laneResume [1] (withLane resting base)))).lane 1).quiet = 2) := by
  (repeat' apply And.intro) <;> decide +kernel

theorem witness_readLaneReport :
    (Asks .readLane [2, 0, 0, 0] base ∧ reply .readLane [2, 0, 0, 0] base = some (.badValue, [])) ∧
    reply .readLane [0, 128, 0, 0] base = some (.badValue, []) ∧
    (base.findLane ⟨213, 0⟩ = none ∧ reply .readLane [1, 0, 213, 0] base = some (.unknownLane, [])) ∧
    (Asks .readLane [0, 127, 0, 0] base ∧
      (reply .readLane [0, 127, 0, 0] base).map (fun r => (r.1, r.2.take 2)) = some (.ok, [127, 0])) ∧
    (base.findLane ⟨214, 0⟩ = some 1 ∧ Asks .readLane [1, 0, 214, 0] base ∧
      reply .readLane [1, 0, 214, 0] base = reply .readLane [0, 1, 0, 0] base ∧
      reply .readLane [0, 1, 0, 0] base = some (.ok, [1, 3, 0xFF, 0, 214, 0, 0, 0xFF, 0x11, 0x3B, 0, 90,
        0, 0, 0, 2, 5, 0, 0, 0, 0xFF, 0, 0, 0, 0, 0, 2, 2, 0, 0, 0, 10, 1, 2, 0xFF, 0xFA, 2, 1])) := by
  (repeat' apply And.intro) <;> decide +kernel

/-- REFERENCE READ of lot 4411, FORWARD, with the published densities but one. -/
def referenceBytes (orientation : Byte) (last : List Byte) : List Byte :=
  [0, 214, 0, 0x11, 0x3B, orientation, 2, 0, 230, 0x02, 0x6C, 0x03, 0x48, 0x02, 0x44, 0x02, 0xE4] ++ last

theorem witness_referenceReadOutcome :
    (Asks .referenceRead (0 :: 213 :: (referenceBytes 0 [0x04, 0x88]).drop 2) base ∧
      reply .referenceRead (0 :: 213 :: (referenceBytes 0 [0x04, 0x88]).drop 2) base
        = some (.unknownLane, [])) ∧
    reply .referenceRead [0, 214, 0, 0x11, 0x96, 0, 0] base = some (.unknownLot, []) ∧
    ((lots3.lane 1).effective ≠ some 4502 ∧ (lots3.lane 1).pendingLot ≠ some 4502 ∧
      reply .referenceRead [0, 214, 0, 0x11, 0x96, 0, 0] lots3 = some (.lotMismatch, [])) ∧
    reply .referenceRead [0, 214, 0, 0x11, 0x3B, 0, 0] base = some (.layout, []) ∧
    reply .referenceRead (referenceBytes 2 [0x04, 0x88]) base = some (.badValue, []) ∧
    (Asks .referenceRead (referenceBytes 0 [0x05, 0x1E]) base ∧ base.findLane ⟨214, 0⟩ = some 1 ∧
      base.findLot 4411 = some lot ∧ (base.lane 1).effective = some 4411 ∧
      (base.family 0).active = some settings ∧
      reply .referenceRead (referenceBytes 0 [0x05, 0x1E]) base
        = some (.ok, [1, 0, 2, 0, 0, 0, 0, 0, 0, 0, 0, 0, 0, 0, 150])) ∧
    reply .referenceRead (referenceBytes 0 [0x05, 0x1F]) base = some (.refRange, [1, 2, 0, 151]) := by
  (repeat' apply And.intro) <;> decide +kernel

/-! ### Sheets -/

/-- STRIP READ for slot 1: day, lot 4411, orientation, patch count and the last density. -/
def stripBytes (day orientation : Byte) (last : List Byte) : List Byte :=
  [0, 214, 0, 0, day, 0x11, 0x3B, orientation, 2, 0, 240, 0x02, 0x6C, 0x03, 0x48, 0x02, 0x44, 0x02, 0xE9]
    ++ last

theorem witness_stripReadOutcome :
    ([1, 2, 3, 4, 5, 6] : List Nat).length = 3 * 2 ∧
    reply .stripRead (0 :: 213 :: (stripBytes 100 0 [0, 1]).drop 2) base = some (.unknownLane, []) ∧
    reply .stripRead (stripBytes 100 0 [0, 1]) (withLane resting base) = some (.suspended, []) ∧
    (Asks .stripRead (stripBytes 99 0 [0, 1]) base ∧ base.openDay = some 100 ∧
      reply .stripRead (stripBytes 99 0 [0, 1]) base = some (.staleDay, [])) ∧
    reply .stripRead (stripBytes 102 0 [0, 1]) base = some (.earlyDay, []) ∧
    reply .stripRead (stripBytes 101 0 [0, 1]) { base with lots := [] } = some (.unknownLot, []) ∧
    reply .stripRead (stripBytes 101 0 [0, 1])
      (withLane { lane with state := .enrolled, effective := none } base) = some (.noLot, []) ∧
    reply .stripRead (stripBytes 101 0 [0, 1])
      (withLane { lane with effective := some 4502 } base) = some (.lotMismatch, []) ∧
    reply .stripRead [0, 214, 0, 0, 101, 0x11, 0x3B, 0, 0] base = some (.layout, []) ∧
    reply .stripRead (stripBytes 101 2 [0, 1]) base = some (.badValue, []) ∧
    (Asks .stripRead (stripBytes 101 0 [0x0F, 0xA1]) base ∧ base.openSheet 101 = some 1 ∧
      reply .stripRead (stripBytes 101 0 [0x0F, 0xA1]) base = some (.ok, [1, 0, 64]) ∧
      ((after (exec .stripRead (holding .stripRead (stripBytes 101 1 [0x0F, 0xA1]) base))).sheet 1).entries.get 1
        = some ⟨4411, [580, 745, 4000, 240, 620, 840], 0, true, none⟩) ∧
    (base.openSheet 100 = some 0 ∧ reply .stripRead (stripBytes 100 0 [0x0F, 0xA0]) base
      = some (.ok, [1, 0, 0])) := by
  (repeat' apply And.intro) <;> decide +kernel

/-- A strip entry of slot 1, before DEVIATE. -/
def strip : StripEntry := ⟨4411, [240, 620, 840, 580, 745, 1160], 15, false, none⟩

theorem witness_readSheetEntryReport :
    reply .readSheetEntry [0, 213, 0, 0, 100] base = some (.unknownLane, []) ∧
    (Asks .readSheetEntry [0, 214, 0, 0, 99] base ∧
      reply .readSheetEntry [0, 214, 0, 0, 99] base = some (.staleDay, [])) ∧
    reply .readSheetEntry [0, 214, 0, 0, 102] base = some (.earlyDay, []) ∧
    (base.openSheet 101 = some 1 ∧
      reply .readSheetEntry [0, 214, 0, 0, 101] base = some (.ok, [1, 0, 101, 0])) ∧
    (base.findLane ⟨214, 0⟩ = some 1 ∧ base.openDay = some 100 ∧
      reply .readSheetEntry [0, 214, 0, 0, 100] (base.setEntry 0 1 strip)
        = some (.ok, [1, 0, 100, 1, 0x11, 0x3B, 15, 0])) := by
  (repeat' apply And.intro) <;> decide +kernel

/-- The ring of `base` is lawful. -/
theorem ringLaw_base : RingLaw base where
  unconfigured h := by cases h
  closedUntilConfigured h := by cases h
  freeIsBlank := by decide +kernel
  dayRange d h := by cases h; decide
  openSheets d h := by cases h; decide +kernel
  openPresent d h := by cases h; decide +kernel
  closedBelow d h := by
    have : ∀ k, (base.sheet k).closed = false := by decide +kernel
    intro k hk; rw [this k] at hk; cases hk
  daysDistinct := by decide +kernel
  closedAtMostTwo := by decide +kernel
  closingQueued d := by
    have : ∀ k, (base.sheet k).state ≠ .closing := by decide +kernel
    exact ⟨fun ⟨k, hk, _⟩ => absurd hk (this k), fun ⟨_, hj, _⟩ => by cases hj⟩
  evaluatingRuns d := by
    have : ∀ k, (base.sheet k).state ≠ .evaluating := by decide +kernel
    exact ⟨fun ⟨k, hk, _⟩ => absurd hk (this k), fun ⟨_, hj, _⟩ => by cases hj⟩
  daysIncrease := List.Pairwise.nil

/-- Days 98 and 99 are still being worked on. -/
def twoClosed : State :=
  (base.setSheet 2 ⟨.closing, some 99, Table.fill 128 none⟩).setSheet 3
    ⟨.closing, some 98, Table.fill 128 none⟩

/-- D of 65534 is the day at which R55 refuses every CLOSE DAY. -/
theorem witness_closeDayOutcome :
    (Asks .closeDay [0, 101] base ∧ base.openDay ≠ some 101 ∧
      reply .closeDay [0, 101] base = some (.badValue, [])) ∧
    (({ base with openDay := some 65534 } : State).openDay = some 65534 ∧
      reply .closeDay [0xFF, 0xFE] { base with openDay := some 65534 } = some (.badValue, [])) ∧
    (2 ≤ twoClosed.sheets.cells.countP Sheet.closed ∧
      reply .closeDay [0, 100] twoClosed = some (.busy, [])) ∧
    reply .closeDay [0, 100] { base with queue := List.replicate 8 ⟨1, .rebuild 1, .queued⟩ }
      = some (.full, []) ∧
    (Asks .closeDay [0, 100] base ∧ base.openDay = some 100 ∧
      base.sheets.cells.countP Sheet.closed < 2 ∧ base.queue.length < 8 ∧ RingLaw (holding .closeDay [0, 100] base) ∧
      reply .closeDay [0, 100] base = some (.queued, [0, 1])) :=
  ⟨by decide +kernel, by decide +kernel, by decide +kernel, by decide +kernel, by decide +kernel,
    by decide +kernel, by decide +kernel, by decide +kernel,
    { ringLaw_base with }, by decide +kernel⟩

/-! ### Cohorts -/

/-- Lanes in slots 1, 2 and 3. -/
def three : State := { base with lanes := (base.lanes.set 2 lane).set 3 lane }

/-- The lanes of `three` in cohort 4. -/
def formed (mode : CohortMode) (lastDay : Option Nat) : State :=
  let l := { lane with cohort := some 4 }
  { base with
    lanes := ((base.lanes.set 1 l).set 2 l).set 3 l
    cohorts := base.cohorts.set 4 (some ⟨0, mode, [1, 2, 3], lastDay, lastDay.map fun _ => [3, -4],
      (lastDay.map fun _ => 3).getD 0⟩) }

theorem witness_cohortSetOutcome :
    (Asks .cohortSet [16, 0, 0, 3, 0, 3, 3, 1, 2] three ∧
      reply .cohortSet [16, 0, 0, 3, 0, 3, 3, 1, 2] three = some (.badValue, []) ∧
      reply .cohortSet [15, 0, 0, 4, 0, 3, 3, 1, 2] three = some (.badValue, []) ∧
      reply .cohortSet [15, 0, 1, 0, 4, 3, 3, 1, 2] three = some (.badValue, [])) ∧
    reply .cohortSet [15, 3, 0, 3, 0, 3, 3, 1, 2] three = some (.unknownFamily, []) ∧
    ((three.lane 127).state = .vacant ∧
      reply .cohortSet [15, 0, 0, 3, 0, 3, 3, 127, 2] three = some (.unknownLane, [127])) ∧
    reply .cohortSet [15, 0, 0, 3, 0, 3, 3, 1, 2]
      (three.setLane 1 { lane with family := some 1 }) = some (.lotMismatch, [1]) ∧
    reply .cohortSet [15, 0, 0, 3, 0, 3, 3, 1, 2]
      (three.setLane 2 { lane with cohort := some 7 }) = some (.inUse, [2]) ∧
    reply .cohortSet [15, 0, 0, 3, 0, 3, 3, 1, 2]
      { three with queue := (evaluating .applied none).queue } = some (.busy, []) ∧
    (Asks .cohortSet [15, 0, 0, 3, 0, 3, 3, 1, 2] three ∧
      ([3, 1, 2] : List Slot).map (·.val) = memberBytes [15, 0, 0, 3, 0, 3, 3, 1, 2] ∧
      (∀ i ∈ ([3, 1, 2] : List Slot), (three.lane i).state ≠ .vacant ∧ (three.lane i).family = some 0 ∧
        (three.lane i).cohort = none) ∧ three.dayRunning = false ∧
      reply .cohortSet [15, 0, 0, 3, 0, 3, 3, 1, 2] three = some (.ok, [15, 3, 1, 2, 3, 0])) ∧
    reply .cohortSet [4, 0, 1, 0, 2, 1, 2] (formed (.median 3) none) = some (.ok, [4, 1, 2, 2]) := by
  (repeat' apply And.intro) <;> decide +kernel

theorem witness_cohortDissolveAndReadOutcome :
    (Asks .cohortDissolve [16] base ∧ reply .cohortDissolve [16] base = some (.badValue, [])) ∧
    (base.cohort 15 = none ∧ reply .cohortDissolve [15] base = some (.unknownCohort, [])) ∧
    reply .cohortDissolve [4] { formed (.median 3) none with queue := (evaluating .applied none).queue }
      = some (.busy, []) ∧
    (Asks .cohortDissolve [4] (formed (.median 3) none) ∧
      reply .cohortDissolve [4] (formed (.median 3) none) = some (.ok, [3])) ∧
    (Asks .readCohort [16] base ∧ reply .readCohort [16] base = some (.badValue, [])) ∧
    (reply .readCohort [15] base).map (fun r => (r.1, r.2.take 2)) = some (.ok, [15, 0]) ∧
    (Asks .readCohort [4] (formed (.median 3) (some 99)) ∧
      ((formed (.median 3) (some 99)).family 0).active = some settings ∧
      reply .readCohort [4] (formed (.median 3) (some 99))
        = some (.ok, [4, 1, 0, 0, 3, 0xFF, 0, 99, 3, 3, 1, 2, 3, 2, 1, 0, 3, 1, 0xFF, 0xFC])) ∧
    reply .readCohort [4] (formed (.anchor (some 2)) none)
      = some (.ok, [4, 1, 0, 1, 0xFF, 2, 0, 0, 0, 3, 1, 2, 3, 2, 0, 0, 0, 0, 0, 0]) := by
  (repeat' apply And.intro) <;> decide +kernel

theorem witness_centerLiesAmongContributors : median [999] = some 999 ∧
    median [-9, 4, -4, 30, -12] = some (-4) ∧ sortAscending [30, -9, -4] = [-9, -4, 30] ∧
    median [4, 3] = some 3 ∧ median [-4, -3] = some (-3) ∧
    median [-999, 999] = some 0 ∧ InDeviationRange (-999) ∧ InDeviationRange 999 ∧
    centersOf 2 [[5, -5], [7, -9], [6, 0]] = some [6, -5] ∧ centersOf 0 [] = some [] := by
  (repeat' apply And.intro) <;> decide +kernel

/-! ### The DAY job -/

/-- An entry after DEVIATE, recorded in cohort 4. -/
def deviated (d : Int) (eligible : Bool) : StripEntry :=
  { strip with result := some ⟨false, false, false, [d, 5], some 4, eligible⟩ }

/-- The CENTER stage of cohort 4 with the entries of slots 1, 2 and 3. -/
def centering (mode : CohortMode) (lastDay : Option Nat) (eligible : Bool) : State :=
  let s := formed mode lastDay
  { s with
    queue := [⟨5, .day 99, .running (.center 4)⟩]
    sheets := base.sheets.set 2 ⟨.evaluating, some 99,
      ((Table.fill 128 none).set 1 (some (deviated 30 eligible))).set 2 (some (deviated 21 eligible))
        |>.set 3 (some (deviated 22 eligible))⟩ }

/-- A FREE cohort; no center, with and without an earlier one; a center, with and without an alert. -/
theorem witness_centerStepEffect :
    ((evaluating (.center 15) none).DayAt 99 (.center 15) ∧
      (evaluating (.center 15) none).evaluatingSheet 99 = some 2 ∧
      (evaluating (.center 15) none).cohort 15 = none) ∧
    ((centering (.median 3) none true).DayAt 99 (.center 4) ∧
      (centering (.median 3) none true).evaluatingSheet 99 = some 2 ∧
      ((centering (.median 3) none true).cohort 4).isSome = true ∧
      ((centering (.median 3) none true).family 0).active = some settings ∧
      centersOf 2 [[30, 5], [21, 5], [22, 5]] = some [22, 5] ∧
      ((after (exec .centerStep (centering (.median 3) none true))).cohort 4).map (·.centers)
        = some (some [22, 5]) ∧
      (after (exec .centerStep (centering (.median 3) none true))).alerts
        = [⟨1, .common, .cohort 4, 99, 99, 1, [0]⟩]) ∧
    ((after (exec .centerStep (centering (.median 3) (some 99) true))).alerts = [] ∧
      ((after (exec .centerStep (centering (.median 4) (some 99) true))).cohort 4).map (·.centers)
        = some none ∧
      ((after (exec .centerStep (centering (.median 4) (some 98) true))).cohort 4).map (·.centers)
        = some (some [3, -4])) ∧
    ((after (exec .centerStep (centering (.anchor (some 2)) none true))).cohort 4).map (·.centers)
      = some (some [21, 5]) ∧
    ((after (exec .centerStep (centering (.anchor none) none true))).cohort 4).map (·.lastDay)
      = some none :=
  ⟨⟨⟨rfl, _, _, rfl, rfl, rfl⟩, by decide +kernel, by decide +kernel⟩,
    ⟨⟨rfl, _, _, rfl, rfl, rfl⟩, by decide +kernel, by decide +kernel, by decide +kernel,
      by decide +kernel, by decide +kernel, by decide +kernel⟩,
    by decide +kernel, by decide +kernel, by decide +kernel⟩

/-- The head job is a queued DAY job, and family 0 has pending settings of one entry more. -/
def startable : State :=
  { evaluating (.deviate 0) none with
    queue := [⟨5, .day 99, .queued⟩]
    sheets := base.sheets.set 2 ⟨.closing, some 99, Table.fill 128 none⟩
    families := base.families.set 0
      ⟨some settings, some { settings with plan := ⟨.single 1 .b, 1, 2, 3⟩ :: settings.plan }⟩ }

theorem witness_dayJobStartAndEndEffect :
    (startable.resetAsserted = false ∧ startable.queue = ⟨5, .day 99, .queued⟩ :: [] ∧
      (startable.lane 1).state ≠ .vacant ∧ (startable.lane 1).family = some 0 ∧
      (startable.family 0).active.map Settings.layout ≠ (startable.family 0).pending.map Settings.layout ∧
      ((after (exec .dayJobStart startable)).lane 1).params.length = 3 ∧
      ((after (exec .dayJobStart startable)).sheet 2).state = .evaluating ∧
      (after (exec .dayJobStart startable)).queue = [⟨5, .day 99, .running (.deviate 0)⟩]) ∧
    ((evaluating .applied none).DayAt 99 .applied ∧
      (after (exec .dayJobEnd (evaluating .applied none))).sheet 2 = .blank ∧
      (after (exec .dayJobEnd (evaluating .applied none))).finished = [⟨5, .day 99, .done⟩]) :=
  ⟨by decide +kernel, ⟨rfl, _, _, rfl, rfl, rfl⟩, by decide +kernel, by decide +kernel⟩

theorem witness_deviateStepEffect :
    ((evaluating (.deviate 127) none).DayAt 99 (.deviate 127) ∧
      (evaluating (.deviate 127) none).evaluatingSheet 99 = some 2 ∧
      ((evaluating (.deviate 127) none).sheet 2).entries.get 127 = none) ∧
    ((evaluating (.deviate 1) (some strip)).DayAt 99 (.deviate 1) ∧
      ((evaluating (.deviate 1) (some strip)).sheet 2).entries.get 1 = some strip ∧
      (evaluating (.deviate 1) (some strip)).findLot strip.lot = some lot ∧
      planValues settings.plan [240, 620, 840, 580, 745, 1160] = some [240, 125] ∧
      (((after (exec .deviateStep (evaluating (.deviate 1) (some strip)))).sheet 2).entries.get 1).bind (·.result)
        = some ⟨true, false, false, [5, 5], none, false⟩) ∧
    (((after (exec .deviateStep (withLane { lane with effOffsets := some [150, 0, 0, 0, 0, 0] }
        (evaluating (.deviate 1) (some { strip with raw := [149, 620, 840, 580, 745, 1160] }))))).sheet
          2).entries.get 1).bind (·.result) = some ⟨false, true, false, [-235, 5], none, false⟩ :=
  ⟨⟨⟨rfl, _, _, rfl, rfl, rfl⟩, by decide +kernel, by decide +kernel⟩,
    ⟨⟨rfl, _, _, rfl, rfl, rfl⟩, by decide +kernel, by decide +kernel, by decide +kernel,
      by decide +kernel⟩, by decide +kernel⟩

/-- The lane of slot 1 after APPLY without a reading, from counters. -/
def missed (quiet dormancy : Nat) : Nat × Nat × LaneState :=
  let l := (after (exec .applyStep
    (withLane { lane with quiet := quiet, dormancy := dormancy } (evaluating (.apply 1) none)))).lane 1
  (l.quiet, l.dormancy, l.state)

theorem witness_applyStepWithoutReading :
    ((evaluating (.apply 127) none).DayAt 99 (.apply 127) ∧
      (evaluating (.apply 127) none).evaluatingSheet 99 = some 2 ∧
      ((evaluating (.apply 127) none).lane 127).state = .vacant) ∧
    ((evaluating (.apply 1) none).DayAt 99 (.apply 1) ∧
      ((evaluating (.apply 1) none).sheet 2).entries.get 1 = none ∧
      ((evaluating (.apply 1) none).lane 1).lastApplied = none ∧
      ((evaluating (.apply 1) none).family 0).active = some settings ∧
      (lane.state = .tracking ∧ lane.effective = some 4411)) ∧
    ((lane.effective ≠ some 4502 ∧ lane.pendingLot ≠ some 4502) ∧
      ((after (exec .applyStep (evaluating (.apply 1) (some { strip with lot := 4502 })))).lane 1).history
        = [⟨99, 4411, false, .missing true⟩] ∧
      ((after (exec .applyStep (withLane { lane with state := .enrolled, effective := none }
        (evaluating (.apply 1) (some { strip with lot := 4502 }))))).lane 1).lastApplied = some 99) ∧
    (settings.quietLimit ≠ 0 ∧ settings.dormancyLimit ≠ 0 ∧ missed 2 5 = (1, 5, .tracking) ∧
      missed 1 5 = (0, 5, .tracking) ∧ missed 0 2 = (0, 1, .tracking) ∧
      missed 0 1 = (0, 0, .suspended)) :=
  ⟨⟨⟨rfl, _, _, rfl, rfl, rfl⟩, by decide +kernel, by decide +kernel⟩,
    ⟨⟨rfl, _, _, rfl, rfl, rfl⟩, by decide +kernel⟩, by decide +kernel, by decide +kernel⟩

/-- With a quiet limit of 0 nothing counts; with a dormancy limit of 0 nothing counts after it. -/
theorem witness_applyStepWithoutLimits :
    ({ settings with quietLimit := 0 } : Settings).quietLimit = 0 ∧
    (lane.countQuiet { settings with quietLimit := 0 }).2 = [] ∧
    (({ lane with quiet := 0 } : Lane).countQuiet { settings with dormancyLimit := 0 }).1.state
      = .tracking := by
  (repeat' apply And.intro) <;> decide +kernel

/-- The APPLY step of slot 1 with a deviated entry of cohort 4, centered on the day or not. -/
def applying (lastDay : Option Nat) (l : Lane) : State :=
  withLane l { formed (.median 3) lastDay with
    queue := [⟨5, .day 99, .running (.apply 1)⟩]
    sheets := base.sheets.set 2
      ⟨.evaluating, some 99, (Table.fill 128 none).set 1 (some (deviated 39 true))⟩ }

theorem witness_applyStepReading :
    ((applying (some 99) lane).DayAt 99 (.apply 1) ∧
      (applying (some 99) lane).evaluatingSheet 99 = some 2 ∧
      ((applying (some 99) lane).sheet 2).entries.get 1 = some (deviated 39 true) ∧
      ((applying (some 99) lane).family 0).active = some settings ∧
      ((applying (some 99) lane).lane 1 = lane ∧ lane.lastApplied = none ∧ lane.state ≠ .vacant ∧
        lane.state ≠ .suspended ∧ lane.chart ≠ .rebuilding ∧ lane.family = some 0 ∧
        lane.params.length = settings.plan.length ∧ lane.effective = some (deviated 39 true).lot) ∧
      (applying (some 99) lane).dayCenters 99 (some 4) = some [3, -4] ∧
      [(3 : Int), -4].length = settings.plan.length) ∧
    ((after (exec .applyStep (applying (some 99) lane))).alerts
        = [⟨1, .action, .lane 1, 99, 99, 1, [0]⟩] ∧
      ((after (exec .applyStep (applying (some 99) lane))).lane 1).params
        = [⟨151, ⟨.plus, 3⟩⟩, ⟨31, ⟨.plus, 1⟩⟩]) ∧
    ((after (exec .applyStep (applying (some 98) { lane with
        effective := none, pendingLot := some 4411, state := .enrolled }))).lane 1).state = .settling :=
  ⟨⟨⟨rfl, _, _, rfl, rfl, rfl⟩, by decide +kernel⟩, by decide +kernel, by decide +kernel⟩

/-! ### The REBUILD job and the history -/

/-- A history entry of a day. -/
def reading (day : Nat) (excluded : Bool) : HistoryEntry :=
  ⟨day, 4411, excluded, .reading 0 ⟨false, false, false, false, false, false, false⟩
    [⟨8, some 6, some 10, ⟨.plus, 2⟩, .ok⟩, ⟨-4, none, none, ⟨.minus, 1⟩, .warning⟩] .warning⟩

/-- A lane with a history of an earlier lot, two readings and a day without one. -/
def historied : Lane :=
  { lane with history := [reading 89 false, reading 90 false, reading 91 true, ⟨92, 4411, false, .missing false⟩] }

def replaying (n : Nat) : State := rebuilding (.running (.replay n)) (withLane historied base)

/-- The chart of slot 1 after the replay of one entry. -/
def replayed (n : Nat) : List ParamState := ((after (exec .replayStep (replaying n))).lane 1).params

theorem witness_rebuildJobEffect :
    ((rebuilding .queued base).resetAsserted = false ∧
      (rebuilding .queued base).queue = ⟨5, .rebuild 1, .queued⟩ :: []) ∧
    ((replaying 4).RebuildAt 1 4 ∧ ((replaying 4).lane 1).history.length ≤ 4 ∧
      ((after (exec .rebuildEnd (replaying 4))).lane 1).chart = .sound) ∧
    ((replaying 1).RebuildAt 1 1 ∧ ((replaying 1).lane 1).history[1]? = some (reading 90 false) ∧
      ((replaying 1).lane 1).effectiveSince = some 90 ∧ ((replaying 1).lane 1).family = some 0 ∧
      replayed 1 = [⟨31, ⟨.plus, 3⟩⟩, ⟨-21, ⟨.minus, 2⟩⟩]) ∧
    (replayed 0 = lane.params ∧ replayed 2 = lane.params ∧ replayed 3 = lane.params) :=
  ⟨⟨rfl, rfl⟩, ⟨⟨rfl, _, _, rfl, rfl, rfl⟩, by decide +kernel, by decide +kernel⟩,
    ⟨⟨rfl, _, _, rfl, rfl, rfl⟩, by decide +kernel⟩, by decide +kernel⟩

theorem witness_smoothingAndRunUpdate : (16 * 4 - (64 : Int) = 0 ∧ smooth 3 64 4 = 64) ∧
    ((0 : Int) ≤ 16 * 1 - 9 ∧ (16 * 1 - 9 : Int) < 2 ^ 3 ∧ smooth 3 9 1 = 9) ∧
    ((16 * 0 - 1 : Int) < 0 ∧ smooth 1 1 0 = 0) ∧
    (InDeviationRange (-999) ∧ InSmoothedRange 15984 ∧ smooth 1 15984 (-999) = 0) ∧
    ((⟨.zero, 0⟩ : Run).length ≤ 255 ∧ (⟨.minus, 255⟩ : Run).length ≤ 255) := by
  (repeat' apply And.intro) <;> decide +kernel

theorem witness_readChartReport :
    (Asks .readChart [128, 0, 0, 0] base ∧ reply .readChart [128, 0, 0, 0] base = some (.badValue, [])) ∧
    (reply .readChart [0, 0, 0, 0] base = some (.unknownLane, [])) ∧
    (reply .readChart [1, 0, 0, 33] base = some (.badValue, [])) ∧
    (Asks .readChart [1, 0, 91, 1] (withLane historied base) ∧
      reply .readChart [1, 0, 91, 1] (withLane historied base) = some (.ok,
        [1, 3, 0, 0, 90, 4, 2, 0, 10, 1, 2, 0xFF, 0xFA, 2, 1, 1] ++ (reading 91 true).bytes ++ [1, 0, 92])) ∧
    (reply .readChart [1, 0, 93, 32] (withLane historied base) = some (.ok,
        [1, 3, 0, 0, 90, 4, 2, 0, 10, 1, 2, 0xFF, 0xFA, 2, 1, 0, 0, 0, 0])) ∧
    (reading 91 true).bytes = [0, 91, 0, 0x11, 0x3B, 0, 0, 1, 1, 2,
      0xD0, 0, 0x80, 0x06, 0, 10, 2, 0x21, 0xFF, 0xC0, 0, 0, 0, 1] := by
  (repeat' apply And.intro) <;> decide +kernel

/-- The flag as it is; a flag that changes with the lane's rebuild queued, not queued, and no room. -/
theorem witness_excludeDayOutcome :
    (Asks .excludeDay [128, 0, 1, 1] base ∧ reply .excludeDay [128, 0, 1, 1] base = some (.badValue, [])) ∧
    reply .excludeDay [0, 0, 1, 1] base = some (.unknownLane, []) ∧
    (reply .excludeDay [1, 0, 91, 2] (withLane historied base) = some (.badValue, []) ∧
      reply .excludeDay [1, 0, 0, 1] (withLane historied base) = some (.badValue, [])) ∧
    reply .excludeDay [1, 0, 93, 1] (withLane historied base) = some (.notFound, []) ∧
    reply .excludeDay [1, 0, 91, 0] (replaying 0) = some (.busy, []) ∧
    (Asks .excludeDay [1, 0, 91, 1] (withLane historied base) ∧
      historied.history.find? (fun y => y.day == 91) = some (reading 91 true) ∧
      reply .excludeDay [1, 0, 91, 1] (withLane historied base) = some (.ok, [1, 0, 3, 0, 0])) ∧
    (reply .excludeDay [1, 0, 91, 0] (rebuilding .queued (withLane historied base))
      = some (.ok, [0, 2, 1, 0, 5])) ∧
    (reply .excludeDay [1, 0, 91, 0] (withLane historied base) = some (.ok, [0, 2, 0, 0, 1])) ∧
    reply .excludeDay [1, 0, 91, 0] { withLane historied base with
      queue := List.replicate 8 ⟨1, .day 9, .queued⟩ } = some (.ok, [0, 2, 2, 0, 0]) := by
  (repeat' apply And.intro) <;> decide +kernel

/-- The counter passes 65535 to 1 and skips the ids that are held; a serial likewise. -/
theorem test_counters : QueueLaw { jobs .applied with nextJobId := 65535 } ∧
    ({ jobs .applied with nextJobId := 65535 } : State).heldJobIds = [5, 6, 4] ∧
    (({ jobs .applied with nextJobId := 3 } : State).joinJob (.rebuild 2)).nextJobId = 7 ∧
    (({ jobs .applied with nextJobId := 65535 } : State).joinJob (.rebuild 2)).nextJobId = 1 ∧
    advanceId [65535, 1, 3] 65535 = 2 := by
  refine ⟨?_, by decide +kernel⟩
  have kinds : ∀ j ∈ (jobs .applied).queue,
      j = ⟨5, .day 99, .running .applied⟩ ∨ j = ⟨6, .rebuild 1, .queued⟩ := by decide +kernel
  refine ⟨by decide +kernel, by decide +kernel, by decide +kernel, fun j hj st h => ?_,
    by decide +kernel, by decide +kernel, by decide +kernel, by decide +kernel, by decide +kernel⟩
  rcases kinds j hj with rfl | rfl
  · cases h; rfl
  · cases h

theorem witness_rebuildOutcome :
    (Asks .rebuild [128] base ∧ reply .rebuild [128] base = some (.badValue, [])) ∧
    reply .rebuild [127] base = some (.unknownLane, []) ∧
    (reply .rebuild [1] (withLane resting base) = some (.badValue, []) ∧
      reply .rebuild [1] (withLane { lane with state := .enrolled } base) = some (.badValue, [])) ∧
    ((rebuilding .queued base).queue = [] ++ ⟨5, .rebuild 1, .queued⟩ :: [] ∧
      reply .rebuild [1] (rebuilding .queued base) = some (.duplicate, [0, 5])) ∧
    (reply .rebuild [1] { base with queue := List.replicate 8 ⟨1, .day 9, .queued⟩ } = some (.full, [])) ∧
    (Asks .rebuild [1] base ∧ (base.lane 1).state = .tracking ∧ base.queue.length < 8 ∧
      reply .rebuild [1] base = some (.queued, [0, 1])) := by
  (repeat' apply And.intro) <;> decide +kernel

def outcomes (n : Nat) : List JobOutcome := (List.range n).map fun i => ⟨i + 1, .day (i + 1), .done⟩

theorem witness_cancelJobOutcome :
    (addOutcome ⟨9, .rebuild 1, .aborted⟩ (outcomes 7) = outcomes 7 ++ [⟨9, .rebuild 1, .aborted⟩] ∧
      (outcomes 8).length = 8 ∧
      addOutcome ⟨9, .day 9, .done⟩ (outcomes 8) = (outcomes 9).tail) ∧
    (Asks .cancelJob [0, 9] (jobs .applied) ∧
      reply .cancelJob [0, 9] (jobs .applied) = some (.notFound, [])) ∧
    (reply .cancelJob [0, 5] (jobs .applied) = some (.dayJob, [])) ∧
    ((jobs .applied).queue = [⟨5, .day 99, .running .applied⟩] ++ ⟨6, .rebuild 1, .queued⟩ :: [] ∧
      reply .cancelJob [0, 6] (jobs .applied) = some (.ok, [0])) ∧
    ((replaying 2).queue = [] ++ ⟨5, .rebuild 1, .running (.replay 2)⟩ :: [] ∧
      reply .cancelJob [0, 5] (replaying 2) = some (.ok, [1]) ∧
      ((after (exec .cancelJob (holding .cancelJob [0, 5] (replaying 2)))).lane 1).chart = .unsettled) := by
  (repeat' apply And.intro) <;> decide +kernel

/-! ### Alerts -/

def alert (serial : Nat) (k : AlertKind) : Alert := ⟨serial, k, .lane 1, 90, 95, 255, [4, 7]⟩

/-- A list of 64 records, the second of the lower severity. -/
def full (k : AlertKind) : State :=
  { base with
    alerts := alert 1 .action :: alert 2 k :: List.replicate 62 (alert 3 .dormant), nextSerial := 9 }

def common : Raise := ⟨.common, .cohort 4, 99, [0]⟩

theorem witness_raiseOutcome :
    ((∃ a ∈ (full .drift).alerts, (a.kind == .drift && a.subject == .lane 1) = true) ∧
      ((full .drift).raise ⟨.drift, .lane 1, 99, [7]⟩).alerts[1]?
        = some ⟨2, .drift, .lane 1, 90, 99, 255, [7]⟩) ∧
    (base.alerts.length < 64 ∧ (base.raise common).alerts = [⟨1, .common, .cohort 4, 99, 99, 1, [0]⟩]) ∧
    (64 ≤ (full .missed).alerts.length ∧
      (full .missed).alerts
        = [alert 1 .action] ++ alert 2 .missed :: List.replicate 62 (alert 3 .dormant) ∧
      ((full .missed).raise common).alerts.length = 64 ∧
      ((full .missed).raise common).alerts.getLast? = some ⟨9, .common, .cohort 4, 99, 99, 1, [0]⟩) ∧
    ((∀ a ∈ (full .drift).alerts, AlertKind.common.severity ≤ a.kind.severity) ∧
      ((full .drift).raise common).alerts = (full .drift).alerts ∧
      ((full .drift).raise common).overflow = true) := by
  (repeat' apply And.intro) <;> decide +kernel

/-- 84 records fit in one response, 85 do not. -/
def manyAlerts (n : Nat) : State :=
  { base with alerts := (List.range n).map fun i => alert (i + 1) .drift }

theorem witness_listAlertsReport :
    (Asks .listAlerts [0, 9] (manyAlerts 2) ∧
      reply .listAlerts [0, 9] (manyAlerts 2) = some (.notFound, [])) ∧
    (reply .listAlerts [0, 0] (manyAlerts 1) = some (.ok,
      [1, 0, 1, 0, 1, 2, 1, 2, 0, 90, 0, 95, 255, 0, 0x90, 0, 0, 0])) ∧
    ((manyAlerts 2).alerts = [alert 1 .drift] ++ [alert 2 .drift] ∧
      reply .listAlerts [0, 2] (manyAlerts 2) = some (.ok,
        [2, 0, 1, 0, 2, 2, 1, 2, 0, 90, 0, 95, 255, 0, 0x90, 0, 0, 0])) ∧
    ((reply .listAlerts [0, 0] (manyAlerts 85)).map fun r => (r.2.length, r.2.drop 1011))
      = some (1014, [1, 0, 85]) := by
  (repeat' apply And.intro) <;> decide +kernel

theorem witness_ackAlertOutcome :
    (Asks .ackAlert [0, 9, 1] (manyAlerts 2) ∧
      reply .ackAlert [0, 9, 1] (manyAlerts 2) = some (.notFound, [])) ∧
    (reply .ackAlert [0, 2, 254] (manyAlerts 2) = some (.changed, [255, 0, 95])) ∧
    ((manyAlerts 2).alerts.find? (fun b => b.serial == 2) = some (alert 2 .drift) ∧
      reply .ackAlert [0, 2, 255] (manyAlerts 2) = some (.ok, [0, 2, 1])) ∧
    (after (exec .ackAlert (holding .ackAlert [0, 1, 255] { manyAlerts 1 with overflow := true }))).overflow
      = false := by
  (repeat' apply And.intro) <;> decide +kernel

/-! ### States that the laws hold of -/

theorem witness_linkLawKept : LinkLaw (owing true) ∧ ∃ t, step (owing true) = .next t := by
  refine ⟨⟨fun p => ?_, fun p => ?_, fun p => ?_, fun _ _ p => ?_, fun h => ?_, fun h => ?_⟩, _, rfl⟩
  · cases p <;> exact ⟨by decide, by decide, by decide, by decide, by decide, by decide, by decide⟩
  · cases p <;> decide
  · cases p <;> decide
  · cases p <;> decide
  · cases h
  · cases h

theorem witness_alertLawKept : AlertLaw (base.raise common) ∧
    ∃ t, step (base.raise common) = .next t := by
  refine ⟨⟨by decide +kernel, by decide +kernel, by decide +kernel, by decide +kernel,
    by decide +kernel, fun a ha => ?_, by decide +kernel, by decide +kernel, by decide +kernel⟩, _, rfl⟩
  have : a = ⟨1, .common, .cohort 4, 99, 99, 1, [0]⟩ := by
    revert a; decide +kernel
  subst this; exact ⟨fun _ => ⟨4, rfl⟩, fun _ => rfl⟩

/-! ### A lawful state in the midst of a DAY job -/

/-- The lane of slot 1, the anchor of cohort 4, with offsets and a history. -/
def anchorLane : Lane :=
  { lane with
    cohort := some 4, effOffsets := some [150, -150, 0, 0, 0, 0], lastApplied := some 98
    history := [reading 90 false, ⟨98, 4411, true, .missing false⟩] }

def anchorCohort : Cohort := ⟨0, .anchor (some 1), [1], some 99, some [5, 5], 1⟩

/-- The DAY job of day 99 before APPLY of slot 1, whose entry DEVIATE has passed, and a queued REBUILD. -/
def working : State :=
  { withLane anchorLane (evaluating (.apply 1) (some (deviated 5 true))) with
    pending := [.applyStep]
    queue := [⟨5, .day 99, .running (.apply 1)⟩, ⟨65535, .rebuild 1, .queued⟩]
    finished := [⟨4, .rebuild 1, .aborted⟩]
    cohorts := base.cohorts.set 4 (some anchorCohort) }

theorem working_lane : ∀ i : Slot, working.lane i = if i = 1 then anchorLane else .vacant := by
  decide +kernel

theorem working_cohort : ∀ c, working.cohort c = if c = 4 then some anchorCohort else none := by
  decide +kernel

theorem working_entry : ∀ k i, (working.sheet k).entries.get i =
    if k = 2 ∧ i = 1 then some (deviated 5 true) else none := by
  decide +kernel

theorem working_family : ∀ f, working.family f = if f = 0 then ⟨some settings, none⟩ else ⟨none, none⟩ := by
  decide +kernel

theorem working_settings {f x} (h : (working.family f).active = some x) : f = 0 ∧ x = settings := by
  rw [working_family] at h
  split at h
  · cases h; exact ⟨‹_›, rfl⟩
  · cases h

theorem settings_inRange : settings.InRange := by
  refine ⟨by decide, by decide, fun e he => ?_, by decide, by decide, by decide⟩
  have : e = ⟨.single 0 .r, 20, 35, 8⟩ ∨ e = ⟨.diff 1 0 .g, 40, 70, 12⟩ := by
    simpa [settings] using he
  rcases this with rfl | rfl <;> simp [PlanEntry.InRange, settings]

theorem working_link : LinkLaw working := by
  refine ⟨fun p => ?_, fun p => ?_, fun p => ?_, fun _ _ p => ?_, fun h => ?_, fun h => ?_⟩
  · cases p <;> exact ⟨by decide, by decide, by decide, by decide, by decide, by decide, by decide⟩
  · cases p <;> decide
  · cases p <;> decide
  · cases p <;> decide
  · cases h
  · cases h

theorem working_job {j} (h : j ∈ working.queue) :
    j = ⟨5, .day 99, .running (.apply 1)⟩ ∨ j = ⟨65535, .rebuild 1, .queued⟩ := by
  simpa [working] using h

theorem working_queue : QueueLaw working := by
  refine ⟨by decide +kernel, by decide +kernel, by decide +kernel, fun j hj st h => ?_,
    by decide +kernel, by decide +kernel, by decide +kernel, by decide +kernel, by decide +kernel⟩
  rcases working_job hj with rfl | rfl <;> cases h
  rfl

theorem working_sheets : ∀ k, ((working.sheet k).state, (working.sheet k).day) =
    (match k with
      | 0 => (SheetState.opened, some 100)
      | 1 => (.opened, some 101)
      | 2 => (.evaluating, some 99)
      | 3 => (.free, none)) := by decide +kernel

theorem working_ring : RingLaw working where
  unconfigured h := by cases h
  closedUntilConfigured h := by cases h
  freeIsBlank := by decide +kernel
  dayRange d h := by cases h; decide
  openSheets d h := by cases h; decide +kernel
  openPresent d h := by cases h; decide +kernel
  closedBelow d h := by
    cases h
    intro k hk
    have : k = 2 := by revert k; decide +kernel
    subst this; exact ⟨99, rfl, by decide⟩
  daysDistinct := by decide +kernel
  closedAtMostTwo := by decide +kernel
  closingQueued d := by
    have : ∀ k, (working.sheet k).state ≠ .closing := by decide +kernel
    refine ⟨fun ⟨k, hk, _⟩ => absurd hk (this k), fun ⟨j, hj, hk, hs⟩ => ?_⟩
    rcases working_job hj with rfl | rfl
    · cases hs
    · cases hk
  evaluatingRuns d := by
    constructor
    · rintro ⟨k, hk, hd⟩
      have : k = 2 := by revert hk; clear hd; revert k; decide +kernel
      subst this; cases hd; exact ⟨_, List.mem_cons_self .., rfl, by decide⟩
    · rintro ⟨j, hj, hk, -⟩
      rcases working_job hj with rfl | rfl
      · cases hk; exact ⟨2, rfl, rfl⟩
      · cases hk
  daysIncrease := by decide +kernel

theorem working_lanes : LaneLaw working := by
  refine ⟨fun i h => ?_, fun i h => ?_, fun i => ?_, fun i st h => ?_, fun id i => ?_, by decide +kernel,
    by decide +kernel, fun i c => ?_, fun c x h => ?_, fun c x h => ?_, fun c x a h => ?_,
    fun j hj i h => ?_⟩
  · revert h; rw [working_lane]; split
    · intro h; cases h
    · exact fun _ => rfl
  · revert h; rw [working_lane]; split
    · exact fun _ => ⟨rfl, rfl⟩
    · exact fun h => absurd rfl h
  · rw [working_lane]; split <;> decide
  · rw [working_lane] at h; split at h <;> cases h
  · show (id, i) ∈ [((⟨214, 0⟩ : Identity), (1 : Slot))] ↔ _
    rw [working_lane, List.mem_singleton, Prod.mk.injEq]
    split
    · exact ⟨fun h => h.1 ▸ rfl, fun h => ⟨by cases h; rfl, ‹_›⟩⟩
    · exact ⟨fun h => absurd h.2 ‹_›, fun h => by cases h⟩
  · rw [working_lane, working_cohort]
    by_cases hi : i = 1 <;> by_cases hc : c = 4
    · subst hi hc; exact ⟨fun _ => ⟨_, rfl, by decide⟩, fun _ => rfl⟩
    · rw [if_pos hi, if_neg hc]
      exact ⟨fun h => absurd (Option.some.inj h).symm hc, fun ⟨_, h, _⟩ => by cases h⟩
    · rw [if_neg hi, if_pos hc]
      exact ⟨fun h => (by cases h), fun ⟨_, h, hm⟩ => (by cases h; simp [anchorCohort, hi] at hm)⟩
    · rw [if_neg hi, if_neg hc]
      exact ⟨fun h => (by cases h), fun ⟨_, h, _⟩ => (by cases h)⟩
  · rw [working_cohort] at h; split at h <;> cases h; decide
  · rw [working_cohort] at h; split at h <;> cases h; decide +kernel
  · rw [working_cohort] at h; split at h <;> cases h
    intro h; cases h; decide
  · rcases working_job hj with rfl | rfl <;> cases h; decide +kernel

theorem working_alerts : AlertLaw working :=
  ⟨by decide +kernel, by decide +kernel, by decide +kernel, by decide +kernel, by decide +kernel,
    fun _ h => (by cases h), by decide +kernel, by decide +kernel, by decide +kernel⟩

theorem reading_results {day x n notes rs v} (h : (reading day x).body = .reading n notes rs v) :
    rs = [⟨8, some 6, some 10, ⟨.plus, 2⟩, .ok⟩, ⟨-4, none, none, ⟨.minus, 1⟩, .warning⟩] := by
  cases h; rfl

theorem anchor_results {e : HistoryEntry} (he : e ∈ anchorLane.history) {n notes rs v}
    (h : e.body = .reading n notes rs v) :
    rs = [⟨8, some 6, some 10, ⟨.plus, 2⟩, .ok⟩, ⟨-4, none, none, ⟨.minus, 1⟩, .warning⟩] := by
  have : e = reading 90 false ∨ e = ⟨98, 4411, true, .missing false⟩ := by
    simpa [anchorLane] using he
  rcases this with rfl | rfl
  · exact reading_results h
  · cases h

theorem working_bounds : BoundsLaw working := by
  refine ⟨fun k i e r h hr => ?_, fun c x cs h hc => ?_, fun i => ?_, fun i e he n notes rs v h => ?_⟩
  · rw [working_entry] at h; split at h <;> cases h
    cases hr; decide
  · rw [working_cohort] at h; split at h <;> cases h
    cases hc; decide
  · rw [working_lane]; split <;> decide +kernel
  · rw [working_lane] at he; split at he
    · rw [anchor_results he h]
      intro r hr; fin_cases hr <;>
        exact ⟨by decide, fun e he => by cases he <;> decide, fun v hv => by cases hv <;> decide, by decide⟩
    · cases he

theorem working_lot {l} (h : l ∈ working.lots) : l = lot :=
  List.mem_singleton.mp h

theorem lot_mem : lot ∈ working.lots := List.mem_cons_self ..

theorem working_families : FamilyLaw working := by
  refine ⟨fun f h => ?_, fun f x h => ?_, fun f x h => ?_⟩
  · rw [working_family]; split <;> rfl
  · rw [(working_settings h).2]; exact settings_inRange
  · rw [working_family] at h; split at h <;> cases h

theorem working_lots : LotLaw working := by
  refine ⟨by decide +kernel, by decide +kernel, by decide +kernel, fun l hl => ?_, by decide +kernel,
    fun l hl v hv => ?_, by decide +kernel, fun l hl x y _ h => ?_⟩
  · rw [working_lot hl]; exact ⟨settings, by decide +kernel, rfl, rfl, rfl⟩
  · rw [working_lot hl] at hv
    have : v = 5 := by simpa [lot] using hv
    omega
  · rw [working_family] at h; split at h <;> cases h

theorem working_charts : ChartLaw working := by
  refine ⟨by decide +kernel, fun i os h => ?_, by decide +kernel, by decide +kernel, fun i x h => ?_⟩
  · rw [working_lane] at h; split at h
    · have : os = [150, -150, 0, 0, 0, 0] := by
        rcases h with h | h <;> cases h; rfl
      subst this; decide
    · rcases h with h | h <;> cases h
  · rw [working_lane] at h ⊢; split at h
    · rw [if_pos ‹_›]
      have : x = reading 90 false ∨ x = ⟨98, 4411, true, .missing false⟩ := by
        simpa [anchorLane] using h
      rcases this with rfl | rfl <;> exact ⟨98, rfl, by decide⟩
    · cases h

theorem working_records : RecordLaw working := by
  refine ⟨fun i f h => ?_, fun i c h => ?_, fun i os h => ?_, fun i os h => ?_, fun i st h hs => ?_,
    fun i h => ?_, fun c x h => ?_, fun k i e h => ?_⟩
  · rw [working_lane] at h ⊢; split at h <;> cases h
    rw [if_pos ‹_›]
    exact ⟨settings, by decide +kernel, rfl, fun e he n notes rs v hb => by rw [anchor_results he hb]; rfl⟩
  · rw [working_lane] at h ⊢; split at h
    · rw [if_pos ‹_›]; exact ⟨lot, lot_mem, by rcases h with h | h <;> cases h; rfl, rfl⟩
    · rcases h with h | h <;> cases h
  · rw [working_lane] at h ⊢; split at h <;> cases h
    rw [if_pos ‹_›]; exact ⟨lot, lot_mem, rfl, rfl⟩
  · rw [working_lane] at h; split at h <;> cases h
  · rw [working_lane] at h ⊢; split at h
    · rw [if_pos ‹_›]; rfl
    · rcases h with rfl | h
      · rcases hs with h | h <;> cases h
      · cases h
  · rw [working_lane] at h ⊢; split at h
    · rw [if_pos ‹_›]; rfl
    · exact absurd rfl h
  · rw [working_cohort] at h; split at h <;> cases h
    exact ⟨settings, by decide +kernel, fun cs h => by cases h; rfl, fun q h => by cases h⟩
  · rw [working_entry] at h; split at h <;> cases h
    rw [working_lane, if_pos (‹_ ∧ _›).2]
    exact ⟨lot, lot_mem, rfl, rfl, rfl, by decide, by decide⟩

theorem working_stage : StageLaw working := by
  refine ⟨fun j rest d st hq hk hs k hk1 hk2 i e h _ => ?_⟩
  rw [working_entry] at h; split at h <;> cases h
  refine ⟨_, rfl, by rw [working_lane, if_pos (‹_ ∧ _›).2]; rfl, fun f x _ hx => ?_⟩
  rw [(working_settings hx).2]; rfl

theorem working_lawful : Lawful working :=
  ⟨working_link, working_queue, working_ring, working_lanes, working_alerts, working_bounds,
    working_families, working_lots, working_charts, working_records, working_stage⟩

/-- An outcome that is a next state. -/
theorem next_of {o : Host.Outcome State Fault Refusal}
    (h : (match o with
      | .next _ => true
      | .fault _ | .refused _ => false) = true) : ∃ t, o = .next t := by
  cases o with
  | next t => exact ⟨t, rfl⟩
  | fault _ => cases h
  | refused _ => cases h

/-- The step of slot 1 applies the reading: the lane's chart moves on, and the laws' premises hold. -/
theorem working_step : ∃ t, step working = .next t := next_of (by decide +kernel)

theorem test_working : ((after (step working)).lane 1).lastApplied = some 99 ∧
    ((after (step working)).lane 1).history.length = 3 := by
  decide +kernel

theorem witness_lawfulStepsNeverFault : Lawful working ∧ ∃ t, step working = .next t :=
  ⟨working_lawful, working_step⟩

theorem witness_queueLawKept : QueueLaw working ∧ ∃ t, step working = .next t :=
  ⟨working_queue, working_step⟩

theorem witness_ringLawKept : QueueLaw working ∧ RingLaw working ∧ ∃ t, step working = .next t :=
  ⟨working_queue, working_ring, working_step⟩

theorem witness_laneLawKept :
    QueueLaw working ∧ LaneLaw working ∧ ChartLaw working ∧ ∃ t, step working = .next t :=
  ⟨working_queue, working_lanes, working_charts, working_step⟩

theorem witness_comparisonBoundsKept : BoundsLaw working ∧ ∃ t, step working = .next t :=
  ⟨working_bounds, working_step⟩

end Sys2Proof.Tests
end

namespace Sys2Proof.Machine

/-! ### Small facts about lists of optional values -/

/-- `allSome` answers a list exactly when every element is present. -/
theorem allSome_isSome_iff {α : Type} {l : List (Option α)} :
    (∃ vs, allSome l = some vs) ↔ ∀ o ∈ l, o.isSome = true := by
  constructor
  · rintro ⟨vs, h⟩ o ho
    rw [allSome_eq_some.mp h] at ho
    obtain ⟨v, -, rfl⟩ := List.mem_map.mp ho
    rfl
  · intro h
    induction l with
    | nil => exact ⟨[], rfl⟩
    | cons a l ih =>
      obtain ⟨v, rfl⟩ := Option.isSome_iff_exists.mp (h a (List.mem_cons_self ..))
      obtain ⟨vs, hvs⟩ := ih fun o ho => h o (List.mem_cons_of_mem _ ho)
      exact ⟨v :: vs, by simp [allSome, hvs]⟩

theorem allSome_length {α : Type} {l : List (Option α)} {vs : List α} (h : allSome l = some vs) :
    vs.length = l.length := by
  rw [allSome_eq_some.mp h, List.length_map]

/-! ### The structure of settings (R3) -/

/-- Two plan shapes agree exactly when kind, patches and channel do (R3). -/
theorem EntryShape.eq_iff (x y : EntryShape) : x = y ↔
    match x, y with
    | .single a c, .single a' c' => a = a' ∧ c = c'
    | .diff a b c, .diff a' b' c' => a = a' ∧ b = b' ∧ c = c'
    | .single _ _, .diff _ _ _ | .diff _ _ _, .single _ _ => False := by
  cases x <;> cases y <;> simp

/-- Two lists have the same image exactly when they are as long as each other and agree position by
position. -/
theorem map_eq_map_iff_getElem? {α β : Type} {f : α → β} {l m : List α} :
    l.map f = m.map f ↔ l.length = m.length ∧
      ∀ (i : Nat) (a b : α), l[i]? = some a → m[i]? = some b → f a = f b := by
  constructor
  · intro h
    refine ⟨by simpa using congrArg List.length h, fun i a b ha hb => ?_⟩
    have hi := congrArg (fun z : List β => z[i]?) h
    simpa [ha, hb] using hi
  · rintro ⟨hlen, h⟩
    refine List.ext_getElem (by simpa using hlen) fun i h1 h2 => ?_
    rw [List.length_map] at h1 h2
    simpa using h i l[i] m[i] (List.getElem?_eq_getElem h1) (List.getElem?_eq_getElem h2)

theorem Settings.layout_eq_iff (x y : Settings) : x.layout = y.layout ↔
    x.patchCount = y.patchCount ∧ x.plan.length = y.plan.length ∧
      ∀ (i : Nat) (e f : PlanEntry), x.plan[i]? = some e → y.plan[i]? = some f →
        e.shape = f.shape := by
  simp only [Settings.layout, Prod.mk.injEq, map_eq_map_iff_getElem?]

/-- Settings of the same structure have the same patch count and plan size. -/
theorem Settings.sizes_of_layout_eq {x y : Settings} (h : x.layout = y.layout) :
    x.patchCount = y.patchCount ∧ x.plan.length = y.plan.length := by
  obtain ⟨hp, hl, -⟩ := (Settings.layout_eq_iff x y).mp h
  exact ⟨hp, hl⟩

/-- Settles O21, through the equality of two plan shapes. -/
theorem sameStructure : Obligations.SameStructure := by
  intro x y
  simp only [Settings.layout_eq_iff, EntryShape.eq_iff] <;> rfl

end Sys2Proof.Machine

namespace Sys2Proof.Machine

/-! ### The laws after power-on -/

@[simp] theorem State.reset_queue : State.reset.queue = [] := rfl
@[simp] theorem State.reset_directory : State.reset.directory = [] := rfl
@[simp] theorem State.reset_rebuildRunning (i : Slot) : State.reset.rebuildRunning i = false := rfl

theorem LinkLaw.reset : LinkLaw State.reset where
  port p := by
    have hr : State.reset.reservedPlaces p = 0 := rfl
    constructor <;> simp [hr, PortState.reset]
  allowance p := by cases p <;> decide
  credit p := by cases p <;> decide
  served _ _ p := by simp [State.eligible, PortState.reset]
  resetExecutor h := by cases h
  resetPort h := by cases h

theorem QueueLaw.reset : QueueLaw State.reset where
  jobs := by decide
  finished := by decide
  headAloneRuns := by decide
  stageFits := fun j hj => by cases hj
  oneRebuildPerLane := fun _ => by simp [State.reset]
  idsDistinct := by decide
  idsInRange := by decide
  nextFree := by decide
  nextInRange := by decide

theorem RingLaw.reset : RingLaw State.reset where
  unconfigured _ := rfl
  closedUntilConfigured _ := ⟨rfl, State.reset_sheet, fun _ hj => by cases hj⟩
  freeIsBlank k _ := State.reset_sheet k
  dayRange _ h := by cases h
  openSheets _ h := by cases h
  openPresent _ h := by cases h
  closedBelow _ h := by cases h
  daysDistinct k _ h := by simp [Sheet.blank] at h
  closedAtMostTwo := by decide
  closingQueued d := by simp [Sheet.blank]
  evaluatingRuns d := by simp [Sheet.blank]
  daysIncrease := by decide

theorem LaneLaw.reset : LaneLaw State.reset where
  vacant i _ := State.reset_lane i
  named i h := by simp [Lane.vacant] at h
  suspendedFrom i := by simp [Lane.vacant]
  suspendedFromState i st h := by simp [Lane.vacant] at h
  directory id i := by simp [Lane.vacant]
  oneSlotPerIdentity := by decide
  slotsAscend := by decide
  membership i c := by simp [Lane.vacant]
  membersAscend c x h := by simp at h
  memberFamily c x h := by simp at h
  anchorIsMember c x a h := by simp at h
  rebuildNamesLane j hj := by cases hj

theorem AlertLaw.reset : AlertLaw State.reset where
  records := by decide
  onePerSubjectAndKind := by decide
  serialsDistinct := by decide
  serialsInRange := by decide
  raisesInRange := by decide
  subjectOfKind a ha := by cases ha
  nextFree := by decide
  nextInRange := by decide
  overflow h := by cases h

theorem BoundsLaw.reset : BoundsLaw State.reset where
  deviations k i e r h := by simp [Sheet.blank] at h
  centers c x cs h := by simp at h
  charts i q hq := by simp [Lane.vacant] at hq
  histories i x hx := by simp [Lane.vacant] at hx

theorem FamilyLaw.reset : FamilyLaw State.reset where
  undefined f _ := by simp
  active f x h := by simp at h
  pending f x h := by simp at h

theorem LotLaw.reset : LotLaw State.reset where
  records := by decide
  codesAscend := by decide
  codeRange l hl := by cases hl
  shape l hl := by cases hl
  densities l hl := by cases hl
  shiftRange l hl := by cases hl
  aimRange l hl := by cases hl
  structureKept l hl := by cases hl

theorem ChartLaw.reset : ChartLaw State.reset where
  rebuilding i := by simp [Lane.vacant]
  offsets i os h := by simp [Lane.vacant] at h
  historyLength i := by simp [Lane.vacant]
  daysIncrease i := by simp [Lane.vacant]
  applied i x hx := by simp [Lane.vacant] at hx

theorem RecordLaw.reset : RecordLaw State.reset where
  laneFamily i f h := by simp [Lane.vacant] at h
  laneLots i c h := by simp [Lane.vacant] at h
  effOffsets i os h := by simp [Lane.vacant] at h
  pendOffsets i os h := by simp [Lane.vacant] at h
  effective i st h hs := by
    simp only [State.reset_lane, Lane.vacant, reduceCtorEq, or_false] at h
    subst h; simp at hs
  history i h := by simp [Lane.vacant] at h
  cohort c x h := by simp at h
  entry k i e h := by simp [Sheet.blank] at h

theorem StageLaw.reset : StageLaw State.reset where
  deviated j rest d st hq := by cases hq

theorem Lawful.reset : Lawful State.reset :=
  ⟨.reset, .reset, .reset, .reset, .reset, .reset, .reset, .reset, .reset, .reset, .reset⟩

/-- Settles O52: every table stands at its power-on value. -/
theorem lawsHoldAfterPowerOn : Obligations.LawsHoldAfterPowerOn :=
  ⟨⟨.reset, .reset, .reset, .reset, .reset, .reset⟩, .reset, .reset, .reset, .reset, .reset⟩

end Sys2Proof.Machine

namespace Sys2Proof.Machine

/-! ### Reading settings from a payload (R4, R171) -/

/-- An identifier below a table's size names a record. -/
theorem idOf_eq_some {k n : Nat} {f : Fin k} : idOf k n = some f ↔ n = f.val := by
  unfold idOf
  split <;> simp [Fin.ext_iff]
  omega

theorem idOf_eq_none {k n : Nat} : idOf k n = none ↔ k ≤ n := by
  unfold idOf
  split <;> simp <;> omega

theorem boolOf_isSome_iff {n : Nat} : (boolOf n).isSome = true ↔ n ≤ 1 := by
  unfold boolOf
  split
  · simp; omega
  · split <;> simp <;> omega

theorem channelOf_isSome_iff {n : Nat} : (channelOf n).isSome = true ↔ n ≤ 2 := by
  unfold channelOf
  split
  · simp; omega
  · split
    · simp; omega
    · split <;> simp <;> omega

/-- The shapes that R4 check 2 accepts. -/
theorem shapeOf_isSome_iff {n kind a b ch : Nat} : (shapeOf n kind a b ch).isSome = true ↔
    (kind = 0 ∧ b = 0xFF ∨ kind = 1 ∧ b < n ∧ b ≠ a) ∧ a < n ∧ ch ≤ 2 := by
  rw [← channelOf_isSome_iff (n := ch)]
  unfold shapeOf
  cases channelOf ch with
  | none => simp
  | some c =>
    simp only [Option.isSome_some, and_true]
    split
    · simp; omega
    · split
      · split <;> simp <;> omega
      · split
        · split <;> simp <;> omega
        · simp; omega

/-- The ranges of one plan entry of a FAMILY SET payload (R4 check 2). -/
theorem planEntryAt_isSome_iff {p : List Byte} {n o : Nat} : (planEntryAt p n o).isSome = true ↔
    (byteAt p o = 0 ∧ byteAt p (o + 2) = 0xFF ∨
      byteAt p o = 1 ∧ byteAt p (o + 2) < n ∧ byteAt p (o + 2) ≠ byteAt p (o + 1)) ∧
    byteAt p (o + 1) < n ∧ byteAt p (o + 3) ≤ 2 ∧
    1 ≤ wordAt p (o + 4) ∧ wordAt p (o + 4) ≤ 998 ∧
    wordAt p (o + 4) < wordAt p (o + 6) ∧ wordAt p (o + 6) ≤ 999 ∧
    1 ≤ wordAt p (o + 8) ∧ wordAt p (o + 8) ≤ 999 := by
  unfold planEntryAt
  dsimp only
  split
  · rw [Option.isSome_map, shapeOf_isSome_iff]
    constructor
    · rintro ⟨h1, h2, h3⟩
      exact ⟨h1, h2, h3, by omega⟩
    · rintro ⟨h1, h2, h3, -⟩
      exact ⟨h1, h2, h3⟩
  · simp only [Option.isSome_none, Bool.false_eq_true, false_iff]
    rintro ⟨-, -, -, h⟩
    omega

/-- What the settings of a payload are, and when they are given. -/
theorem settingsOf_eq_some {p : List Byte} {x : Settings} (h : settingsOf p = some x) :
    ∃ act plan, boolOf (byteAt p 7) = some act ∧
      allSome ((List.range (byteAt p 8)).map fun i => planEntryAt p (byteAt p 1) (9 + 10 * i)) =
        some plan ∧
      (2 ≤ byteAt p 1 ∧ byteAt p 1 ≤ 8 ∧ 1 ≤ byteAt p 8 ∧ byteAt p 8 ≤ 12 ∧ 3 ≤ byteAt p 2 ∧
        byteAt p 2 ≤ 15 ∧ 1 ≤ byteAt p 3 ∧ byteAt p 3 ≤ 3 ∧ byteAt p 4 ≤ 7 ∧ byteAt p 5 ≤ 15 ∧
        byteAt p 6 ≤ 30) ∧
      x = ⟨byteAt p 1, plan, byteAt p 2, byteAt p 3, byteAt p 4, byteAt p 5, byteAt p 6, act⟩ := by
  unfold settingsOf at h
  dsimp only at h
  split at h
  · rename_i act plan hact hplan
    split at h
    · cases h
      exact ⟨act, plan, hact, hplan, ‹_›, rfl⟩
    · cases h
  · cases h

/-- The ranges of R4 check 2: a payload gives settings exactly when every field is in its range. -/
theorem settingsOf_isSome_iff (p : List Byte) : (∃ x, settingsOf p = some x) ↔
    2 ≤ byteAt p 1 ∧ byteAt p 1 ≤ 8 ∧ 3 ≤ byteAt p 2 ∧ byteAt p 2 ≤ 15 ∧ 1 ≤ byteAt p 3 ∧
    byteAt p 3 ≤ 3 ∧ byteAt p 4 ≤ 7 ∧ byteAt p 5 ≤ 15 ∧ byteAt p 6 ≤ 30 ∧ byteAt p 7 ≤ 1 ∧
    1 ≤ byteAt p 8 ∧ byteAt p 8 ≤ 12 ∧
    ∀ i, i < byteAt p 8 → (planEntryAt p (byteAt p 1) (9 + 10 * i)).isSome = true := by
  have hplan : (∃ plan, allSome ((List.range (byteAt p 8)).map fun i =>
      planEntryAt p (byteAt p 1) (9 + 10 * i)) = some plan) ↔
      ∀ i, i < byteAt p 8 → (planEntryAt p (byteAt p 1) (9 + 10 * i)).isSome = true := by
    rw [allSome_isSome_iff]; simp
  constructor
  · rintro ⟨x, h⟩
    obtain ⟨act, plan, hact, hall, hr, -⟩ := settingsOf_eq_some h
    have h7 : byteAt p 7 ≤ 1 := boolOf_isSome_iff.mp (by simp [hact])
    have hi := hplan.mp ⟨plan, hall⟩
    obtain ⟨h1, h2, h3, h4, h5, h6, h8, h9, h10, h11, h12⟩ := hr
    exact ⟨h1, h2, h5, h6, h8, h9, h10, h11, h12, h7, h3, h4, hi⟩
  · rintro ⟨h1, h2, h3, h4, h5, h6, h7, h8, h9, h10, h11, h12, hi⟩
    obtain ⟨act, hact⟩ := Option.isSome_iff_exists.mp (boolOf_isSome_iff.mpr h10)
    obtain ⟨plan, hall⟩ := hplan.mpr hi
    unfold settingsOf
    simp only [hact, hall]
    exact ⟨_, if_pos ⟨h1, h2, h11, h12, h3, h4, h5, h6, h7, h8, h9⟩⟩

/-! ### A ready command -/

/-- A ready command whose body performs it. -/
theorem runCommand_done {c : Command} {body : Held → State → Reply} {s s' : State} {h : Held}
    {st : Status} {pl : List Byte} (r : s.Ready c h) (hb : body h s = .done s' st pl) :
    runCommand c body s = .next (answer h st pl s') := by
  rw [runCommand_of_ready r, hb]

/-- A ready command whose body refuses it. -/
theorem runCommand_refuse {c : Command} {body : Held → State → Reply} {s : State} {h : Held}
    {st : Status} (r : s.Ready c h) (hb : body h s = .refuse s st) :
    runCommand c body s = .next (answer h st [] s) :=
  runCommand_done r hb

/-! ### FAMILY SET (R4 to R6) -/

theorem lotCount_pos_iff {s : State} {f : FamilyId} :
    0 < s.lotCount f ↔ ∃ l ∈ s.lots, l.family = f := by
  simp [State.lotCount, List.countP_pos_iff]

theorem familySetBody_badValue {h : Held} {s : State}
    (hb : 3 < byteAt h.frame.payload 0 ∨ settingsOf h.frame.payload = none) :
    familySetBody h s = .refuse s .badValue := by
  unfold familySetBody
  dsimp only
  split
  · rfl
  · rename_i f hf
    rcases hb with hb | hb
    · rw [idOf_eq_none.mpr hb] at hf; cases hf
    · rw [hb]

section
variable {h : Held} {s : State} {f : FamilyId} {x act : Settings}
  (hf : byteAt h.frame.payload 0 = f.val) (hx : settingsOf h.frame.payload = some x)
include hf hx

theorem familySetBody_undefined (ha : (s.family f).active = none) :
    familySetBody h s = .done (s.setFamily f (.activate x)) .ok (u8 f.val ++ u8 0) := by
  simp [familySetBody, idOf_eq_some.mpr hf, hx, ha]

theorem familySetBody_inUse (ha : (s.family f).active = some act)
    (hl : ∃ l ∈ s.lots, l.family = f) (hne : x.layout ≠ act.layout) :
    familySetBody h s = .refuse s .inUse := by
  simp [familySetBody, idOf_eq_some.mpr hf, hx, ha, lotCount_pos_iff.mpr hl, hne]

theorem familySetBody_pending (ha : (s.family f).active = some act)
    (hok : (∀ l ∈ s.lots, l.family ≠ f) ∨ x.layout = act.layout) :
    familySetBody h s = .done (s.setFamily f ⟨some act, some x⟩) .ok (u8 f.val ++ u8 1) := by
  have hn : ¬ (0 < s.lotCount f ∧ x.layout ≠ act.layout) := by
    rw [lotCount_pos_iff]
    rintro ⟨⟨l, hl, hlf⟩, hne⟩
    exact hok.elim (fun h => h l hl hlf) hne
  simp [familySetBody, idOf_eq_some.mpr hf, hx, ha, if_neg hn]

end

/-- Settles O22: the ranges of R4 from those of one plan entry, the outcomes from FAMILY SET's body. -/
theorem familySetOutcome : Obligations.FamilySetOutcome := by
  refine ⟨fun p => ?_, fun s h r => ?_⟩
  · simp only [settingsOf_isSome_iff, planEntryAt_isSome_iff]
  · refine ⟨fun hb => runCommand_refuse r (familySetBody_badValue hb), fun f x hf hx =>
      ⟨fun ha => runCommand_done r (familySetBody_undefined hf hx ha), fun act ha =>
        ⟨fun hl hne => ?_, fun hok => ?_⟩⟩⟩
    · exact runCommand_refuse r (familySetBody_inUse hf hx ha hl hne)
    · exact runCommand_done r (familySetBody_pending hf hx ha hok)

end Sys2Proof.Machine

namespace Sys2Proof.Machine

/-! ### Settings read from a payload and written again (R171, R172) -/

/-- `n` bytes of a payload from an offset on. -/
def bytesAt (p : List Byte) (o n : Nat) : List Byte := (List.range n).map fun k => p.getD (o + k) 0

theorem bytesAt_eq_drop {p : List Byte} {o n : Nat} (h : p.length = o + n) :
    bytesAt p o n = p.drop o := by
  refine List.ext_getElem (by simp [bytesAt, h]) fun i h1 h2 => ?_
  rw [List.length_drop] at h2
  have hi : o + i < p.length := by omega
  simp [bytesAt, List.getD_eq_getElem?_getD, hi]

theorem bytesAt_append (p : List Byte) {o m o' n : Nat} (h : o + m = o') :
    bytesAt p o m ++ bytesAt p o' n = bytesAt p o (m + n) := by
  subst h
  simp [bytesAt, List.range_add, Nat.add_assoc]

/-- Runs of `m` bytes that follow each other. -/
theorem flatMap_bytesAt (p : List Byte) (o m c : Nat) :
    ((List.range c).flatMap fun i => bytesAt p (o + m * i) m) = bytesAt p o (m * c) := by
  induction c with
  | zero => rfl
  | succ c ih => rw [List.range_succ, List.flatMap_append, ih, Nat.mul_succ, ← bytesAt_append p rfl]; simp

theorem u8_byteAt (p : List Byte) (i : Nat) : u8 (byteAt p i) = bytesAt p i 1 := by
  simp [u8, byteAt, bytesAt]

theorem u16_wordAt (p : List Byte) (i : Nat) : u16 (wordAt p i) = bytesAt p i 2 := by
  have h1 : byteAt p (i + 1) < 256 := (p.getD (i + 1) 0).isLt
  have hdiv : wordAt p i / 256 = byteAt p i := by unfold wordAt; omega
  have hmod : BitVec.ofNat 8 (wordAt p i) = BitVec.ofNat 8 (byteAt p (i + 1)) := by
    refine BitVec.eq_of_toNat_eq ?_
    simp only [BitVec.toNat_ofNat]
    unfold wordAt; omega
  simp [u16, hdiv, hmod, byteAt, bytesAt, List.range_succ]

theorem flag_of_boolOf {p : List Byte} {i : Nat} {b : Bool} (h : boolOf (byteAt p i) = some b) :
    flag b = u8 (byteAt p i) := by
  unfold boolOf at h
  split at h
  · rename_i h0; cases h; rw [h0]; rfl
  · split at h
    · rename_i h1; cases h; rw [h1]; rfl
    · cases h

theorem code_of_channelOf {n : Nat} {c : Channel} (h : channelOf n = some c) : c.code = n := by
  unfold channelOf at h
  split at h
  · rename_i h0; cases h; exact h0.symm
  · split at h
    · rename_i h1; cases h; exact h1.symm
    · split at h
      · rename_i h2; cases h; exact h2.symm
      · cases h

/-- A plan shape is written as it was read. -/
theorem shapeOf_eq_some {n kind a b ch : Nat} {sh : EntryShape} (h : shapeOf n kind a b ch = some sh) :
    (∃ c, kind = 0 ∧ b = 0xFF ∧ a < n ∧ c.code = ch ∧ sh = .single a c) ∨
      ∃ c, kind = 1 ∧ a < n ∧ b < n ∧ b ≠ a ∧ c.code = ch ∧ sh = .diff a b c := by
  unfold shapeOf at h
  split at h
  · cases h
  · rename_i c hc
    have hcode := code_of_channelOf hc
    split at h
    · cases h
    · rename_i ha
      split at h
      · split at h
        · cases h; exact .inl ⟨c, ‹_›, ‹_›, by omega, hcode, rfl⟩
        · cases h
      · split at h
        · split at h
          · cases h; exact .inr ⟨c, ‹_›, by omega, (‹_ ∧ _›).1, (‹_ ∧ _›).2, hcode, rfl⟩
          · cases h
        · cases h

theorem planEntryAt_eq_some {p : List Byte} {n o : Nat} {e : PlanEntry}
    (h : planEntryAt p n o = some e) :
    shapeOf n (byteAt p o) (byteAt p (o + 1)) (byteAt p (o + 2)) (byteAt p (o + 3)) =
        some e.shape ∧
      e.warn = wordAt p (o + 4) ∧ e.act = wordAt p (o + 6) ∧ e.drift = wordAt p (o + 8) ∧
      1 ≤ e.warn ∧ e.warn ≤ 998 ∧ e.warn < e.act ∧ e.act ≤ 999 ∧ 1 ≤ e.drift ∧ e.drift ≤ 999 := by
  unfold planEntryAt at h
  dsimp only at h
  split at h
  · obtain ⟨sh, hsh, rfl⟩ := Option.map_eq_some_iff.mp h
    refine ⟨hsh, rfl, rfl, rfl, ?_⟩
    dsimp only; omega
  · cases h

/-- A plan entry is written as the ten bytes that it was read from. -/
theorem planEntryAt_bytes {p : List Byte} {n o : Nat} {e : PlanEntry}
    (h : planEntryAt p n o = some e) : e.bytes = bytesAt p o 10 := by
  obtain ⟨hsh, hw, ha, ht, -⟩ := planEntryAt_eq_some h
  have hten : bytesAt p o 10 = u8 (byteAt p o) ++ u8 (byteAt p (o + 1)) ++ u8 (byteAt p (o + 2)) ++
      u8 (byteAt p (o + 3)) ++ u16 (wordAt p (o + 4)) ++ u16 (wordAt p (o + 6)) ++
      u16 (wordAt p (o + 8)) := by
    simp (disch := omega) only [u8_byteAt, u16_wordAt, bytesAt_append]
  rw [hten]
  unfold PlanEntry.bytes
  rcases shapeOf_eq_some hsh with ⟨c, hk, hb, -, hc, hs⟩ | ⟨c, hk, -, -, -, hc, hs⟩
  · rw [hs, hw, ha, ht, hk, hb, ← hc]
    simp only [List.append_assoc]
    rfl
  · rw [hs, hw, ha, ht, hk, ← hc]

/-- What is written for each value of a list follows from what it was read from. -/
theorem flatMap_of_allSome {α β γ : Type} {l : List α} {f : α → Option β} {vs : List β}
    {g : β → List γ} {w : α → List γ} (h : allSome (l.map f) = some vs)
    (hw : ∀ a b, f a = some b → g b = w a) : vs.flatMap g = l.flatMap w := by
  rw [allSome_eq_some] at h
  induction l generalizing vs with
  | nil => cases vs <;> simp_all
  | cons a l ih =>
    cases vs with
    | nil => simp at h
    | cons v vs =>
      simp only [List.map_cons, List.cons.injEq] at h
      rw [List.flatMap_cons, List.flatMap_cons, hw a v h.1, ih h.2]

/-- Settings are written as the bytes that they were read from. -/
theorem settingsOf_bytes {p : List Byte} {x : Settings} (h : settingsOf p = some x)
    (hlen : p.length = 9 + 10 * byteAt p 8) : x.bytes = p.drop 1 := by
  obtain ⟨act, plan, hact, hplan, -, rfl⟩ := settingsOf_eq_some h
  have hbytes : plan.flatMap PlanEntry.bytes = bytesAt p 9 (10 * byteAt p 8) := by
    rw [← flatMap_bytesAt]
    exact flatMap_of_allSome hplan fun i e he => planEntryAt_bytes he
  have hcount : plan.length = byteAt p 8 := by simpa using allSome_length hplan
  have hwhole : bytesAt p 1 (8 + 10 * byteAt p 8) = p.drop 1 := bytesAt_eq_drop (by omega)
  unfold Settings.bytes
  rw [hbytes, hcount, flag_of_boolOf hact, ← hwhole]
  simp (disch := omega) only [u8_byteAt, bytesAt_append]

/-! ### FAMILY GET (R10) -/

theorem familyGetBody_badValue {h : Held} {s : State} (hb : 3 < byteAt h.frame.payload 0) :
    familyGetBody h s = .refuse s .badValue := by
  simp [familyGetBody, idOf_eq_none.mpr hb]

theorem familyGetBody_ok {h : Held} {s : State} {f : FamilyId}
    (hf : byteAt h.frame.payload 0 = f.val) :
    familyGetBody h s = .done s .ok (familyPayload s f) := by
  simp [familyGetBody, idOf_eq_some.mpr hf]

theorem familyPayload_undefined {s : State} {f : FamilyId} (ha : (s.family f).active = none) :
    familyPayload s f = u8 f.val ++ [0, 0, 0xFF] := by
  simp [familyPayload, ha, u8]

theorem familyPayload_defined {s : State} {f : FamilyId} {x : Settings}
    (ha : (s.family f).active = some x) :
    familyPayload s f = u8 f.val ++ [1] ++ u8 (s.lots.countP fun l => l.family == f)
      ++ match (s.family f).pending with
        | none => [0] ++ x.bytes
        | some y => [1] ++ x.bytes ++ y.bytes := by
  unfold familyPayload
  rw [ha]
  cases (s.family f).pending <;> simp [flag, u8, State.lotCount]

/-- Settles O23: the bytes of the settings run by run, the report from FAMILY GET's body. -/
theorem familyGetReport : Obligations.FamilyGetReport := by
  refine ⟨fun p x => settingsOf_bytes, fun s h r => ⟨fun hb => ?_, fun f hf => ⟨fun ha => ?_,
    fun x ha => ?_⟩⟩⟩
  · exact runCommand_refuse r (familyGetBody_badValue hb)
  · rw [← familyPayload_undefined ha]
    exact runCommand_done r (familyGetBody_ok hf)
  · have run := runCommand_done r (familyGetBody_ok (s := s) hf)
    rw [familyPayload_defined ha] at run
    exact run

end Sys2Proof.Machine

namespace Sys2Proof.Machine

/-! ### Plan values (R2) -/

theorem densityAt_eq (ds : List Int) (patch : Nat) (c : Channel) :
    densityAt ds patch c = ds[3 * patch + match c with
      | .r => 0
      | .g => 1
      | .b => 2]? := by
  unfold densityAt
  rw [Nat.mul_comm]
  cases c <;> rfl

theorem planValue_diff {ds : List Int} {a b : Nat} {c : Channel} {x y : Int}
    (ha : densityAt ds a c = some x) (hb : densityAt ds b c = some y) :
    planValue ds (.diff a b c) = some (x - y) := by simp [planValue, ha, hb]

/-- A plan gives one value per entry, in plan order (R2). -/
theorem planValues_iff {plan : List PlanEntry} {ds vs : List Int} :
    planValues plan ds = some vs ↔ vs.length = plan.length ∧
      ∀ (i : Nat) (e : PlanEntry), plan[i]? = some e → planValue ds e.shape = vs[i]? := by
  rw [planValues_eq_some]
  constructor
  · intro h
    have hlen : vs.length = plan.length := by simpa using (congrArg List.length h).symm
    refine ⟨hlen, fun i e he => ?_⟩
    have hi := congrArg (fun l : List (Option Int) => l[i]?) h
    simp only [List.getElem?_map, he, Option.map_some] at hi
    cases hv : vs[i]? with
    | none => simp [hv] at hi
    | some v => simpa [hv] using hi
  · rintro ⟨hlen, h⟩
    refine List.ext_getElem (by simp [hlen]) fun i h1 h2 => ?_
    simp only [List.length_map] at h1 h2
    have hi := h i plan[i] (List.getElem?_eq_getElem h1)
    rw [List.getElem?_eq_getElem h2] at hi
    simpa using hi

theorem planValues_length {plan : List PlanEntry} {ds vs : List Int}
    (h : planValues plan ds = some vs) : vs.length = plan.length := (planValues_iff.mp h).1

/-- The patches that a plan entry names lie below a patch count (R2). -/
def EntryShape.PatchesBelow (n : Nat) : EntryShape → Prop
  | .single a _ => a < n
  | .diff a b _ => a < n ∧ b < n

theorem densityAt_isSome {ds : List Int} {n a : Nat} (c : Channel) (hds : ds.length = 3 * n)
    (ha : a < n) : ∃ v, densityAt ds a c = some v := by
  have hi : c.index ≤ 2 := by cases c <;> decide
  exact ⟨_, List.getElem?_eq_getElem (by omega)⟩

theorem planValue_isSome {ds : List Int} {n : Nat} {sh : EntryShape} (hds : ds.length = 3 * n)
    (h : sh.PatchesBelow n) : ∃ v, planValue ds sh = some v := by
  cases sh with
  | single a c => exact densityAt_isSome c hds h
  | diff a b c =>
    obtain ⟨x, hx⟩ := densityAt_isSome c hds h.1
    obtain ⟨y, hy⟩ := densityAt_isSome c hds h.2
    exact ⟨x - y, planValue_diff hx hy⟩

/-- A plan whose patches lie below the patch count has a value for each entry (R2). -/
theorem planValues_isSome {plan : List PlanEntry} {ds : List Int} {n : Nat}
    (hds : ds.length = 3 * n) (h : ∀ e ∈ plan, e.shape.PatchesBelow n) :
    ∃ vs, planValues plan ds = some vs := by
  refine allSome_isSome_iff.mpr fun o ho => ?_
  obtain ⟨e, he, rfl⟩ := List.mem_map.mp ho
  exact Option.isSome_iff_exists.mpr (planValue_isSome hds (h e he))

/-! ### LOT LOAD (R12, R14, R15) -/

theorem wordsAt_length (p : List Byte) (i n : Nat) : (wordsAt p i n).length = n := by
  simp [wordsAt]

theorem shiftList_length (n : Nat) (pairs : List (Nat × Int)) : (shiftList n pairs).length = n := by
  simp [shiftList]

theorem shiftList_getElem? {n i : Nat} (pairs : List (Nat × Int)) (h : i < n) :
    (shiftList n pairs)[i]? = some ((pairs.find? fun q => q.1 == i).map (·.2)) := by
  simp [shiftList, h]

/-- The values of a LOT LOAD in their ranges (R14 check 5). -/
theorem lotValuesOk_iff {n : Nat} {published : List Nat} {pairs : List (Nat × Int)} :
    lotValuesOk n published pairs = true ↔ (∀ x ∈ published, x ≤ 4000) ∧
      (∀ q ∈ pairs, q.1 < n ∧ -500 ≤ q.2 ∧ q.2 ≤ 500) ∧ (pairs.map (·.1)).Nodup := by
  simp only [lotValuesOk, Config.maxDensity, Config.maxShift, Bool.and_eq_true, List.all_eq_true,
    decide_eq_true_eq, and_assoc]

/-- The aims of a lot are the plan's values plus the shifts (R12). -/
theorem lotAims_eq_some {plan : List PlanEntry} {published : List Nat} {shifts : List (Option Int)}
    {aims : List Int} (h : lotAims plan published shifts = some aims) :
    ∃ vs, planValues plan (published.map fun (x : Nat) => (x : Int)) = some vs ∧
      aims = List.zipWith (fun v (sh : Option Int) => v + sh.getD 0) vs shifts := by
  obtain ⟨vs, hvs, rfl⟩ := Option.map_eq_some_iff.mp h
  exact ⟨vs, hvs, rfl⟩

theorem lotAims_length {plan : List PlanEntry} {published : List Nat} {shifts : List (Option Int)}
    {aims : List Int} (hs : shifts.length = plan.length)
    (h : lotAims plan published shifts = some aims) : aims.length = plan.length := by
  obtain ⟨vs, hvs, rfl⟩ := lotAims_eq_some h
  simp [planValues_length hvs, hs]

theorem lotAims_getElem? {plan : List PlanEntry} {published : List Nat} {shifts : List (Option Int)}
    {aims : List Int} (hs : shifts.length = plan.length)
    (h : lotAims plan published shifts = some aims) {i : Nat} {e : PlanEntry}
    (he : plan[i]? = some e) : ∃ v,
      planValue (published.map fun (x : Nat) => (x : Int)) e.shape = some v ∧
        aims[i]? = some (v + (shifts[i]?.getD none).getD 0) := by
  obtain ⟨vs, hvs, rfl⟩ := lotAims_eq_some h
  obtain ⟨hlen, hval⟩ := planValues_iff.mp hvs
  have hi : i < plan.length := (List.getElem?_eq_some_iff.mp he).1
  have hiv : i < vs.length := by omega
  have his : i < shifts.length := by omega
  refine ⟨vs[i], by rw [hval i e he, List.getElem?_eq_getElem hiv], ?_⟩
  simp [List.getElem?_zipWith, List.getElem?_eq_getElem hiv, List.getElem?_eq_getElem his]

/-- Published densities of every patch give aims to a plan that names no further patch. -/
theorem lotAims_isSome {plan : List PlanEntry} {published : List Nat} {n : Nat}
    (shifts : List (Option Int)) (hp : published.length = 3 * n)
    (h : ∀ e ∈ plan, e.shape.PatchesBelow n) : ∃ aims, lotAims plan published shifts = some aims := by
  obtain ⟨vs, hvs⟩ := planValues_isSome (ds := published.map fun (x : Nat) => (x : Int)) (n := n)
    (by rw [List.length_map, hp]) h
  exact Option.isSome_iff_exists.mp (by simp [lotAims, hvs])

theorem findLot_isSome_iff {s : State} {code : Nat} :
    (s.findLot code).isSome = true ↔ ∃ l ∈ s.lots, l.code = code := by
  simp [State.findLot]

theorem findLot_eq_none_iff {s : State} {code : Nat} :
    s.findLot code = none ↔ ∀ l ∈ s.lots, l.code ≠ code := by
  simp [State.findLot]

/-- A structure change waits for a family (R7, R14 check 3). -/
theorem pending_any_iff {o : Option Settings} {act : Settings} :
    o.any (fun x => x.layout != act.layout) = true ↔ ∃ y, o = some y ∧ y.layout ≠ act.layout := by
  cases o <;> simp

theorem lotLoadBody_badValue {h : Held} {s : State}
    (hb : wordAt h.frame.payload 0 = 0 ∨ 3 < byteAt h.frame.payload 2) :
    lotLoadBody h s = .refuse s .badValue := by
  unfold lotLoadBody
  dsimp only
  split
  · rfl
  · rename_i f hf
    rcases hb with hb | hb
    · rw [if_pos hb]
    · rw [idOf_eq_none.mpr hb] at hf; cases hf

section
variable {h : Held} {s : State} {f : FamilyId} {act : Settings}
  (hc : wordAt h.frame.payload 0 ≠ 0) (hf : byteAt h.frame.payload 2 = f.val)
include hc hf

theorem lotLoadBody_unknownFamily (ha : (s.family f).active = none) :
    lotLoadBody h s = .refuse s .unknownFamily := by
  simp [lotLoadBody, idOf_eq_some.mpr hf, hc, ha]

variable (ha : (s.family f).active = some act)
include ha

theorem lotLoadBody_busy (hw : ∃ y, (s.family f).pending = some y ∧ y.layout ≠ act.layout) :
    lotLoadBody h s = .refuse s .busy := by
  simp only [lotLoadBody, idOf_eq_some.mpr hf, if_neg hc, ha, pending_any_iff.mpr hw, if_true]

variable (hw : ¬ ∃ y, (s.family f).pending = some y ∧ y.layout ≠ act.layout)
include hw

theorem lotLoadBody_layout (hp : byteAt h.frame.payload 3 ≠ act.patchCount) :
    lotLoadBody h s = .refuse s .layout := by
  simp only [lotLoadBody, idOf_eq_some.mpr hf, if_neg hc, ha, pending_any_iff, if_neg hw, if_pos hp]

/-- LOT LOAD past its first four checks. -/
theorem lotLoadBody_values (hp : byteAt h.frame.payload 3 = act.patchCount) :
    lotLoadBody h s =
      (let p := h.frame.payload
       let code := wordAt p 0
       let published := wordsAt p 5 (byteAt p 3 * 3)
       if !lotValuesOk act.plan.length published (shiftPairs p) then .refuse s .badValue
       else if (s.findLot code).isSome then .refuse s .duplicate
       else if Config.maxLots ≤ s.lots.length then .refuse s .full
       else
         let shifts := shiftList act.plan.length (shiftPairs p)
         match lotAims act.plan published shifts with
         | none => .broken .shapeMismatch
         | some aims =>
           .done { s with lots := insertLot ⟨code, f, published, shifts, aims⟩ s.lots } .ok
             (u16 code ++ u8 aims.length ++ aims.flatMap i16)) := by
  simp only [lotLoadBody, idOf_eq_some.mpr hf, if_neg hc, ha, pending_any_iff, if_neg hw, hp,
    ne_eq, not_true_eq_false, if_false] <;> rfl

end

/-- Settles O24: R2 from the plan's values, the outcomes from LOT LOAD's body check by check. -/
theorem lotLoadOutcome : Obligations.LotLoadOutcome := by
  refine ⟨fun ds a b c => ⟨densityAt_eq ds a c, fun x y hx hy => planValue_diff ?_ ?_⟩,
    fun plan ds vs => planValues_iff, fun s h r => ?_⟩
  · rw [densityAt_eq]; exact hx
  · rw [densityAt_eq]; exact hy
  refine ⟨fun hb => runCommand_refuse r (lotLoadBody_badValue hb), fun f hc hf => ⟨fun ha => ?_,
    fun act ha => ⟨fun hw => ?_, fun hw hp => ?_, fun hw hp => ?_⟩⟩⟩
  · exact runCommand_refuse r (lotLoadBody_unknownFamily hc hf ha)
  · exact runCommand_refuse r (lotLoadBody_busy hc hf ha hw)
  · exact runCommand_refuse r (lotLoadBody_layout hc hf ha hw hp)
  have body := lotLoadBody_values hc hf ha hw hp
  simp only [← lotValuesOk_iff, ← findLot_isSome_iff, ← findLot_eq_none_iff]
  refine ⟨fun hv => runCommand_refuse r ?_, fun hv hd => runCommand_refuse r ?_,
    fun hv hd => ⟨fun hl => runCommand_refuse r ?_, fun hl hpatch => ?_⟩⟩
  · rw [body]; simp [hv]
  · rw [body]; simp [hv, hd]
  · rw [body]; simp [hv, hd, hl]
  have hbelow : ∀ e ∈ act.plan, e.shape.PatchesBelow act.patchCount := fun e he => by
    have := hpatch e he
    revert this
    cases e.shape <;> exact id
  have hlen : (wordsAt h.frame.payload 5 (byteAt h.frame.payload 3 * 3)).length =
      3 * act.patchCount := by rw [wordsAt_length, hp, Nat.mul_comm]
  have hs := shiftList_length act.plan.length (shiftPairs h.frame.payload)
  obtain ⟨aims, haims⟩ := lotAims_isSome (shiftList act.plan.length (shiftPairs h.frame.payload))
    hlen hbelow
  have halen := lotAims_length hs haims
  refine ⟨shiftList act.plan.length (shiftPairs h.frame.payload), aims.map some, hs,
    by rw [List.length_map, halen], fun i hi => shiftList_getElem? _ hi, fun i e he => ?_, ?_⟩
  · obtain ⟨v, hv, hav⟩ := lotAims_getElem? hs haims he
    exact ⟨v, hv, by rw [List.getElem?_map, hav]; rfl⟩
  · refine (runCommand_done r (pl := _) ?_).trans rfl
    rw [body]
    simp [hv, hd, Nat.not_le.mpr hl, haims, insertLot, halen, List.flatMap_map]

end Sys2Proof.Machine

namespace Sys2Proof.Machine

/-! ### Lots in use (R16, R18) -/

theorem effectiveUsers_pos_iff {s : State} {code : Nat} : 0 < s.effectiveUsers code ↔
    ∃ i, (s.lane i).state ≠ .vacant ∧ (s.lane i).effective = some code := by
  simp [State.effectiveUsers, List.countP_pos_iff, Table.mem_cells, State.lane]

theorem pendingUsers_pos_iff {s : State} {code : Nat} : 0 < s.pendingUsers code ↔
    ∃ i, (s.lane i).state ≠ .vacant ∧ (s.lane i).pendingLot = some code := by
  simp [State.pendingUsers, List.countP_pos_iff, Table.mem_cells, State.lane]

theorem Sheet.holdsLot_iff {sh : Sheet} {code : Nat} : sh.holdsLot code = true ↔
    sh.state ≠ .free ∧ ∃ i e, sh.entries.get i = some e ∧ e.lot = code := by
  have hentry : (∃ o ∈ sh.entries.cells, o.any (StripEntry.ofLot code) = true) ↔
      ∃ i e, sh.entries.get i = some e ∧ e.lot = code := by
    constructor
    · rintro ⟨o, ho, hany⟩
      obtain ⟨i, rfl⟩ := Table.mem_cells.mp ho
      cases hg : sh.entries.get i with
      | none => simp [hg] at hany
      | some e => exact ⟨i, e, hg, by simpa [hg, StripEntry.ofLot] using hany⟩
    · rintro ⟨i, e, he, hl⟩
      exact ⟨_, Table.mem_cells.mpr ⟨i, rfl⟩, by simp [he, StripEntry.ofLot, hl]⟩
  simp only [Sheet.holdsLot, Bool.and_eq_true, bne_iff_ne, List.any_eq_true, hentry]

theorem sheetHoldsLot_iff {s : State} {code : Nat} : s.sheetHoldsLot code = true ↔
    ∃ k i e, (s.sheet k).state ≠ .free ∧ (s.sheet k).entries.get i = some e ∧ e.lot = code := by
  simp only [State.sheetHoldsLot, List.any_eq_true, Table.mem_cells, Sheet.holdsLot_iff]
  constructor
  · rintro ⟨_, ⟨k, rfl⟩, hs, i, e, he⟩
    exact ⟨k, i, e, hs, he⟩
  · rintro ⟨k, i, e, hs, he⟩
    exact ⟨_, ⟨k, rfl⟩, hs, i, e, he⟩

/-- A lot is in use exactly when a lane's lots or a live sheet's entry name it (R16). -/
theorem lotInUse_iff {s : State} {code : Nat} : s.lotInUse code = true ↔
    (∃ i, (s.lane i).state ≠ .vacant ∧
        ((s.lane i).effective = some code ∨ (s.lane i).pendingLot = some code)) ∨
      ∃ k i e, (s.sheet k).state ≠ .free ∧ (s.sheet k).entries.get i = some e ∧ e.lot = code := by
  simp only [State.lotInUse, Bool.or_eq_true, decide_eq_true_eq, effectiveUsers_pos_iff,
    pendingUsers_pos_iff, sheetHoldsLot_iff, and_or_left, exists_or]

/-! ### LOT DROP and LOT GET (R17 to R19) -/

theorem lotDropBody_unknownLot {h : Held} {s : State}
    (hn : ∀ l ∈ s.lots, l.code ≠ wordAt h.frame.payload 0) :
    lotDropBody h s = .refuse s .unknownLot := by
  simp [lotDropBody, findLot_eq_none_iff.mpr hn]

theorem lotDropBody_known {h : Held} {s : State}
    (hl : ∃ l ∈ s.lots, l.code = wordAt h.frame.payload 0) :
    lotDropBody h s = if s.lotInUse (wordAt h.frame.payload 0) then .refuse s .inUse
      else .done (s.dropLot (wordAt h.frame.payload 0)) .ok [] := by
  obtain ⟨l, hl⟩ := Option.isSome_iff_exists.mp (findLot_isSome_iff.mpr hl)
  simp [lotDropBody, hl]

theorem lotGetBody_directory {h : Held} {s : State} (h0 : wordAt h.frame.payload 0 = 0) :
    lotGetBody h s = .done s .ok (lotDirectory s) := by simp [lotGetBody, h0]

theorem lotGetBody_unknownLot {h : Held} {s : State} (h0 : wordAt h.frame.payload 0 ≠ 0)
    (hn : ∀ l ∈ s.lots, l.code ≠ wordAt h.frame.payload 0) :
    lotGetBody h s = .refuse s .unknownLot := by
  simp [lotGetBody, h0, findLot_eq_none_iff.mpr hn]

theorem lotGetBody_known {h : Held} {s : State} {l : LotRecord}
    (h0 : wordAt h.frame.payload 0 ≠ 0) (hl : s.findLot (wordAt h.frame.payload 0) = some l) :
    lotGetBody h s = .done s .ok (lotPayload s l) := by
  simp [lotGetBody, h0, hl]

theorem findLot_eq_some {s : State} {code : Nat} {l : LotRecord} (h : s.findLot code = some l) :
    l ∈ s.lots ∧ l.code = code :=
  ⟨List.mem_of_find?_eq_some h, by simpa using List.find?_some h⟩

theorem optI16_eq (o : Option Int) : optI16 o = match o with
    | none => [0, 0, 0]
    | some x => [1] ++ i16 x := by
  cases o <;> rfl

/-- Settles O25: use of a lot spelled out over lanes and sheets, then the bodies case by case. -/
theorem lotDropAndLotGetOutcome : Obligations.LotDropAndLotGetOutcome := by
  refine ⟨fun s h r => ⟨fun hn => ?_, fun hl => ⟨fun hu => ?_, fun hu => ?_⟩⟩, fun s h r =>
    ⟨fun h0 => ?_, fun h0 hn => ?_, fun l h0 hl => ?_⟩⟩
  · exact runCommand_refuse r (lotDropBody_unknownLot hn)
  · refine runCommand_refuse r ?_
    rw [lotDropBody_known hl, if_pos (lotInUse_iff.mpr hu)]
  · refine runCommand_done r ?_
    rw [lotDropBody_known hl, if_neg (mt lotInUse_iff.mp hu)]
    rfl
  · exact runCommand_done r (lotGetBody_directory h0)
  · exact runCommand_refuse r (lotGetBody_unknownLot h0 hn)
  · have run := runCommand_done r (lotGetBody_known h0 hl)
    rw [lotPayload, (findLot_eq_some hl).2, funext optI16_eq] at run
    exact run

end Sys2Proof.Machine

namespace Sys2Proof.Machine

/-! ### Promotion (R8) -/

/-- A family record after its promotion (R8). -/
def FamilyRecord.promoted (r : FamilyRecord) : FamilyRecord :=
  match r.pending with
  | none => r
  | some x => .activate x

/-- The settings whose promotion changes a family's structure, where there are any (R8). -/
def FamilyRecord.remade (r : FamilyRecord) : Option Settings :=
  r.pending.filter fun x => decide (r.active.map Settings.layout ≠ some x.layout)

theorem FamilyRecord.remade_eq_some {r : FamilyRecord} {x : Settings} : r.remade = some x ↔
    r.pending = some x ∧ r.active.map Settings.layout ≠ some x.layout := by
  simp [FamilyRecord.remade, Option.filter_eq_some_iff]

/-- A lane under the promotion of a family (R8). -/
def FamilyRecord.remakeLane (r : FamilyRecord) (f : FamilyId) (l : Lane) : Lane :=
  match r.remade with
  | none => l
  | some x => l.restructure f x

/-- A cohort record under the promotion of a family (R8). -/
def FamilyRecord.remakeCohort (r : FamilyRecord) (f : FamilyId) (c : Option Cohort) : Option Cohort :=
  match r.remade with
  | none => c
  | some _ => restructureCohort f c

/-- What the promotion of one family does to the tables (R8). -/
theorem State.promote_eq (s : State) (f : FamilyId) : s.promote f =
    { s with
      families := s.families.set f (s.family f).promoted
      lanes := s.lanes.map ((s.family f).remakeLane f)
      cohorts := s.cohorts.map ((s.family f).remakeCohort f) } := by
  have hid : ∀ {α : Type} {n : Nat} (t : Table α n), t.map (fun x => x) = t := fun t =>
    Table.ext_get fun i => Table.get_map ..
  unfold State.promote FamilyRecord.promoted FamilyRecord.remakeLane FamilyRecord.remakeCohort
  cases hr : (s.family f).remade with
  | none =>
    simp only [hid]
    cases hp : (s.family f).pending with
    | none =>
      have hset : s.families.set f (s.family f) = s.families :=
        Table.ext_get fun g => by rw [Table.get_set]; split <;> simp [State.family, *]
      simp only [hset]
    | some x =>
      have hl : (s.family f).active.map Settings.layout = some x.layout := by
        by_contra hl
        rw [FamilyRecord.remade_eq_some.mpr ⟨hp, hl⟩] at hr; cases hr
      simp only [if_pos hl]; rfl
  | some x =>
    obtain ⟨hp, hl⟩ := FamilyRecord.remade_eq_some.mp hr
    simp only [hp, if_neg hl]; rfl

theorem State.promote_family (s : State) (f g : FamilyId) :
    (s.promote f).family g = if f = g then (s.family f).promoted else s.family g := by
  rw [State.promote_eq]; exact s.family_setFamily f g _

theorem State.promote_lane (s : State) (f : FamilyId) (i : Slot) :
    (s.promote f).lane i = (s.family f).remakeLane f (s.lane i) := by
  rw [State.promote_eq]; exact Table.get_map ..

theorem State.promote_cohort (s : State) (f : FamilyId) (c : CohortId) :
    (s.promote f).cohort c = (s.family f).remakeCohort f (s.cohort c) := by
  rw [State.promote_eq]; exact Table.get_map ..

theorem Lane.restructure_of_eq {f : FamilyId} {l : Lane} (x : Settings) (hs : l.state ≠ .vacant)
    (h : l.family = some f) : l.restructure f x = { l with params := freshParams x } := by
  simp [Lane.restructure, h, hs]

/-- A promotion leaves everything of a lane but its chart state alone, and all of a lane that is
VACANT or of another family (R8). -/
theorem FamilyRecord.remakeLane_cases (r : FamilyRecord) (f : FamilyId) (l : Lane) :
    r.remakeLane f l = l ∨ ∃ x, r.remade = some x ∧ l.state ≠ .vacant ∧ l.family = some f ∧
      r.remakeLane f l = { l with params := freshParams x } := by
  unfold FamilyRecord.remakeLane
  split
  · exact .inl rfl
  · rename_i x hx
    unfold Lane.restructure
    split
    · exact .inr ⟨x, hx, (‹_ ∧ _›).1, (‹_ ∧ _›).2, rfl⟩
    · exact .inl rfl

theorem FamilyRecord.remakeCohort_cases (r : FamilyRecord) (f : FamilyId) (c : Option Cohort) :
    r.remakeCohort f c = c ∨ ∃ x y, r.remade = some x ∧ c = some y ∧ y.family = f ∧
      r.remakeCohort f c = some { y with centers := none, count := 0 } := by
  unfold FamilyRecord.remakeCohort
  split
  · exact .inl rfl
  · rename_i x hx
    cases c with
    | none => exact .inl rfl
    | some y =>
      by_cases hy : y.family = f
      · exact .inr ⟨x, y, hx, rfl, hy, by simp [restructureCohort, hy]⟩
      · exact .inl (by simp [restructureCohort, hy])

/-- Four updates, each of the records of one family alone, update each record by its own family's. -/
theorem updateEachFamily {α : Type} {family : α → Option FamilyId} {update : FamilyId → α → α}
    (hkeep : ∀ f a, family (update f a) = family a)
    (hother : ∀ f a, family a ≠ some f → update f a = a) (a : α) :
    update 3 (update 2 (update 1 (update 0 a))) =
      match family a with
      | none => a
      | some f => update f a := by
  cases h : family a with
  | none => simp [hother, h]
  | some f =>
    have skip : ∀ g b, family b = some f → g ≠ f → update g b = b := fun g b hb hne =>
      hother g b (by simpa [hb] using hne.symm)
    have hf := (hkeep f a).trans h
    match f with
    | 0 => simp [skip 1 _ hf, skip 2 _ hf, skip 3 _ hf]
    | 1 => simp [skip 0 _ h, skip 2 _ hf, skip 3 _ hf]
    | 2 => simp [skip 0 _ h, skip 1 _ h, skip 3 _ hf]
    | 3 => simp [skip 0 _ h, skip 1 _ h, skip 2 _ h]

/-- Every family's pending settings become active (R102). -/
theorem State.promoteAll_family (s : State) (f : FamilyId) :
    s.promoteAll.family f = (s.family f).promoted := by
  unfold State.promoteAll
  match f with
  | 0 | 1 | 2 | 3 => simp [State.promote_family]

/-- A lane is remade by the promotion of its own family alone (R8, R102). -/
theorem State.promoteAll_lane (s : State) (i : Slot) :
    s.promoteAll.lane i = match (s.lane i).family with
      | none => s.lane i
      | some f => (s.family f).remakeLane f (s.lane i) := by
  rw [← updateEachFamily (update := fun f => (s.family f).remakeLane f)]
  · simp [State.promoteAll, State.promote_lane, State.promote_family]
  · intro f l
    obtain h | ⟨x, -, -, -, h⟩ := (s.family f).remakeLane_cases f l <;> simp [h]
  · intro f l hne
    obtain h | ⟨x, -, -, hf, -⟩ := (s.family f).remakeLane_cases f l
    · exact h
    · exact absurd hf hne

/-- A cohort is remade by the promotion of its own family alone (R8, R102). -/
theorem State.promoteAll_cohort (s : State) (c : CohortId) :
    s.promoteAll.cohort c = match (s.cohort c).map Cohort.family with
      | none => s.cohort c
      | some f => (s.family f).remakeCohort f (s.cohort c) := by
  rw [← updateEachFamily (update := fun f => (s.family f).remakeCohort f)
    (family := fun o => o.map Cohort.family)]
  · simp [State.promoteAll, State.promote_cohort, State.promote_family]
  · intro f o
    obtain h | ⟨x, y, -, rfl, -, h⟩ := (s.family f).remakeCohort_cases f o <;> simp [h]
  · intro f o hne
    obtain h | ⟨x, y, -, rfl, hy, -⟩ := (s.family f).remakeCohort_cases f o
    · exact h
    · exact absurd (by simp [hy]) hne

theorem State.promoteAll_frame (s : State) : ∃ families lanes cohorts,
    s.promoteAll = { s with families := families, lanes := lanes, cohorts := cohorts } := by
  simp only [State.promoteAll, State.promote_eq]
  exact ⟨_, _, _, rfl⟩

/-! ### The start and the end of a DAY job (R102, R107) -/

/-- DAY_JOB_START of the job at the head (R102). -/
theorem State.startDayJob_eq {s : State} {j : Job} {rest : List Job} (d : Nat)
    (hq : s.queue = j :: rest) : s.startDayJob d =
      { s.promoteAll with
        sheets := s.sheets.map (Sheet.startDay d)
        queue := { j with state := .running (.deviate 0) } :: rest } := by
  obtain ⟨families, lanes, cohorts, h⟩ := s.promoteAll_frame
  unfold State.startDayJob State.setStage State.setHeadState
  simp only [h, hq]

/-- The running job is the head of the queue (R96). -/
theorem State.running_eq_some {s : State} {j : Job} {st : Stage} : s.running = some (j, st) ↔
    ∃ rest, s.queue = j :: rest ∧ j.state = .running st := by
  unfold State.running
  split
  · simp [*]
  · rename_i k rest hq
    cases hk : k.state with
    | queued =>
      simp only [reduceCtorEq, false_iff, not_exists, not_and, hq, List.cons.injEq]
      rintro r ⟨rfl, -⟩ h; rw [hk] at h; cases h
    | running x =>
      simp only [Option.some.injEq, Prod.mk.injEq, hq, List.cons.injEq]
      constructor
      · rintro ⟨rfl, rfl⟩; exact ⟨rest, ⟨rfl, rfl⟩, hk⟩
      · rintro ⟨r, ⟨rfl, rfl⟩, h⟩; rw [hk] at h; cases h; exact ⟨rfl, rfl⟩

theorem State.stepping_eq_some {s : State} {j : Job} {st : Stage} : s.stepping = some (j, st) ↔
    s.resetAsserted = false ∧ ∃ rest, s.queue = j :: rest ∧ j.state = .running st := by
  rw [← State.running_eq_some]
  unfold State.stepping
  cases s.resetAsserted <;> simp

theorem State.startable_of_queued {s : State} {j : Job} {rest : List Job}
    (hr : s.resetAsserted = false) (hq : s.queue = j :: rest) (hs : j.state = .queued) :
    s.startable = some j := by simp [State.startable, hr, hq, hs]

theorem execDayJobStart_of_queued {s : State} {j : Job} {rest : List Job} {d : Nat}
    (hr : s.resetAsserted = false) (hq : s.queue = j :: rest) (hs : j.state = .queued)
    (hk : j.kind = .day d) : exec .dayJobStart s = .next (s.startDayJob d) := by
  show execDayJobStart s = _
  simp [execDayJobStart, State.startable_of_queued hr hq hs, hk]

/-- The head job leaves the queue (R101). -/
theorem State.finishJob_head {s : State} {j : Job} {rest : List Job} (r : JobResult)
    (hq : s.queue = j :: rest) : s.finishJob j r =
      { s with queue := rest, finished := addOutcome ⟨j.id, j.kind, r⟩ s.finished } := by
  simp [State.finishJob, hq]

theorem execDayJobEnd_of_applied {s : State} {j : Job} {d : Nat}
    (h : s.stepping = some (j, .applied)) (hk : j.kind = .day d) : exec .dayJobEnd s =
      .next (({ s with sheets := s.sheets.map (Sheet.endDay d) } : State).finishJob j .done) := by
  show execDayJobEnd s = _
  simp [execDayJobEnd, h, hk]

theorem FamilyRecord.remakeLane_of_remade {r : FamilyRecord} {f : FamilyId} {l : Lane}
    {x : Settings} (hr : r.remade = some x) (hs : l.state ≠ .vacant) (hf : l.family = some f) :
    r.remakeLane f l = { l with params := List.replicate x.plan.length ⟨0, ⟨.zero, 0⟩⟩ } := by
  unfold FamilyRecord.remakeLane
  rw [hr]
  exact Lane.restructure_of_eq x hs hf

/-- Settles O41: the promotion read back record by record, and the job that leaves the queue. -/
theorem dayJobStartAndEndEffect : Obligations.DayJobStartAndEndEffect := by
  refine ⟨fun s j rest d hr hq hs hk => ⟨_, execDayJobStart_of_queued hr hq hs hk, ?_⟩,
    fun s d hd => ?_⟩
  · rw [State.startDayJob_eq d hq]
    refine ⟨rfl, fun k => Table.get_map .., fun f => s.promoteAll_family f,
      ⟨fun i f x hv hf hx => ?_, fun i hi => ?_, fun c y x hc hx => ?_, fun c hc => ?_⟩, ?_⟩
    · refine (s.promoteAll_lane i).trans ?_
      rw [hf]
      exact FamilyRecord.remakeLane_of_remade (FamilyRecord.remade_eq_some.mpr hx) hv hf
    · refine (s.promoteAll_lane i).trans ?_
      cases hf : (s.lane i).family with
      | none => rfl
      | some f =>
        obtain h | ⟨x, hx, hv, -, -⟩ := (s.family f).remakeLane_cases f (s.lane i)
        · exact h
        · exact (hi.elim hv fun h => h f x hf (FamilyRecord.remade_eq_some.mp hx)).elim
    · refine (s.promoteAll_cohort c).trans ?_
      simp [hc, FamilyRecord.remakeCohort, FamilyRecord.remade_eq_some.mpr hx, restructureCohort]
    · refine (s.promoteAll_cohort c).trans ?_
      cases hy : s.cohort c with
      | none => rfl
      | some y =>
        obtain h | ⟨x, y', hx, hy', hf, -⟩ := (s.family y.family).remakeCohort_cases y.family (some y)
        · exact h
        · exact (hc y x hy (FamilyRecord.remade_eq_some.mp hx)).elim
    · obtain ⟨families, lanes, cohorts, h⟩ := s.promoteAll_frame
      rw [h]
      exact ⟨_, _, _, _, _, rfl⟩
  · obtain ⟨j, hstep, hk⟩ := State.stepping_of_dayAt hd
    obtain ⟨-, rest, hq, -⟩ := State.stepping_eq_some.mp hstep
    refine ⟨j, rest, hq, _, execDayJobEnd_of_applied hstep hk, ?_⟩
    rw [State.finishJob_head .done (by exact hq), hk]
    exact ⟨fun k => Table.get_map .., rfl⟩

end Sys2Proof.Machine

namespace Sys2Proof.Machine

/-! ### What a step can do to the tables

Every step is a chain of the changes below, each with the checks it has passed, and then a move of the
links alone. No law is needed to say so; each law is then kept change by change. -/

/-- One change of a lane's record that leaves its slot, identity, family, cohort and REBUILD job alone. -/
inductive LaneEdit (s : State) (i : Slot) : Lane → Prop
  /-- LOT ASSIGN (R27). -/
  | assign (lot : LotRecord) : (s.lane i).state ≠ .vacant → lot ∈ s.lots →
      (s.lane i).family = some lot.family → LaneEdit s i ((s.lane i).assign lot.code).1
  /-- LANE SUSPEND (R33). -/
  | suspend : (s.lane i).state ≠ .vacant → LaneEdit s i (s.lane i).suspend
  /-- LANE RESUME (R35). -/
  | resume (st : LaneState) (x : Settings) : (s.lane i).state = .suspended →
      (s.lane i).suspendedFrom = some st →
      LaneEdit s i (({ s.lane i with state := st, suspendedFrom := none } : Lane).reload x)
  /-- The counters reloaded by a REFERENCE READ (R31). -/
  | reload (id : Identity) (x : Settings) : (id, i) ∈ s.directory →
      LaneEdit s i ((s.lane i).reload x)
  /-- The offsets stored by a REFERENCE READ (R31). -/
  | offsets (id : Identity) (lot : LotRecord) (os : List Int) : (id, i) ∈ s.directory →
      lot ∈ s.lots → (s.lane i).hasLot lot.code = true → (∀ o ∈ os, -150 ≤ o ∧ o ≤ 150) →
      (∀ x, s.laneSettings (s.lane i) = some x → lot.published.length = 3 * x.patchCount →
        os.length = lot.published.length) →
      LaneEdit s i ((s.lane i).storeOffsets lot.code os).1
  /-- EXCLUDE DAY (R125). -/
  | exclude (day : Nat) (flag : Bool) : (s.lane i).state ≠ .vacant → s.rebuildRunning i = false →
      LaneEdit s i ((s.lane i).setExcluded day flag)
  /-- REPLAY of a history entry (R129). -/
  | replay (j : Job) (k : Nat) (x : HistoryEntry) : j ∈ s.queue → j.kind = .rebuild i →
      x ∈ (s.lane i).history → LaneEdit s i ((s.lane i).replay k x)
  /-- The lot switch of APPLY (R36). -/
  | switchLot (day : Nat) (x : Settings) : (s.lane i).state ≠ .vacant →
      (s.lane i).state ≠ .suspended → (s.lane i).pendingLot.isSome = true →
      LaneEdit s i ((s.lane i).switchLot day x)
  /-- APPLY of a reading (R63 to R75). -/
  | reading (day : Nat) (k : SheetNo) (e : StripEntry) (r : Deviated) (x : Settings)
      (switched noCenter saturated : Bool) : s.DayAt day (.apply i) → s.evaluatingSheet day = some k →
      (s.sheet k).entries.get i = some e → e.result = some r →
      s.laneSettings (s.lane i) = some x → (s.lane i).state ≠ .vacant →
      (s.lane i).state ≠ .suspended → (s.lane i).lastApplied.any (day ≤ ·) = false →
      (s.lane i).effective = some e.lot →
      LaneEdit s i ((s.lane i).afterReading day x
        (readingEntry day (s.lane i) e r switched noCenter saturated
          ((s.readingResults day i (s.lane i) x r).map (·.1)))
        (s.readingResults day i (s.lane i) x r))
  /-- APPLY of a day without a reading (R137 to R140). -/
  | missing (day lot : Nat) (x : Settings) (withdrawn : Bool) :
      (s.lane i).state = .settling ∨ (s.lane i).state = .tracking →
      (s.lane i).effective = some lot → (s.lane i).lastApplied.any (day ≤ ·) = false →
      LaneEdit s i { ((s.lane i).countQuiet x).1 with
        history := appendHistory ⟨day, lot, false, .missing withdrawn⟩ (s.lane i).history
        lastApplied := some day }
  /-- APPLY of an ENROLLED lane whose entry is of another lot (R106 step 8). -/
  | passed (day : Nat) : (s.lane i).state ≠ .vacant →
      (s.lane i).lastApplied.any (day ≤ ·) = false →
      LaneEdit s i { s.lane i with lastApplied := some day }

/-- A lot that has passed the checks of LOT LOAD, with the record that R15 makes of it. -/
structure LoadedLot (s : State) (l : LotRecord) (act : Settings) : Prop where
  code : 1 ≤ l.code ∧ l.code ≤ 65535
  active : (s.family l.family).active = some act
  pending : ∀ y, (s.family l.family).pending = some y → y.layout = act.layout
  published : l.published.length = 3 * act.patchCount
  densities : ∀ v ∈ l.published, v ≤ 4000
  shifts : l.shifts.length = act.plan.length
  shiftRange : ∀ v, some v ∈ l.shifts → -500 ≤ v ∧ v ≤ 500
  aims : lotAims act.plan l.published l.shifts = some l.aims
  fresh : ∀ x ∈ s.lots, x.code ≠ l.code
  room : s.lots.length < 32

/-- A COHORT SET that has passed its checks (R80). -/
structure AdmittedCohort (s : State) (r : CohortRequest) : Prop where
  family : ∃ x, (s.family r.family).active = some x
  distinct : r.members.Nodup
  size : r.members.length ≤ 16
  members : ∀ i ∈ r.members, (s.lane i).state ≠ .vacant ∧ (s.lane i).family = some r.family ∧
    ((s.lane i).cohort = none ∨ (s.lane i).cohort = some r.id)
  quorum : ∀ q, r.mode = .median q → 3 ≤ q ∧ q ≤ 16
  anchor : ∀ a, r.mode = .anchor (some a) → a ∈ r.members
  idle : s.dayRunning = false

/-- An entry that a STRIP READ files for a slot (R47, R48). -/
structure FiledEntry (s : State) (i : Slot) (e : StripEntry) : Prop where
  lot : (s.lane i).hasLot e.lot = true
  raw : ∃ x, s.laneSettings (s.lane i) = some x ∧ e.raw.length = 3 * x.patchCount
  densities : ∀ v ∈ e.raw, v ≤ 4000
  rerun : e.rerun ≤ 15
  result : e.result = none

/-- An entry holds the results that DEVIATE computes for it (R57 to R61). -/
def EntryDeviated (s : State) (day : Nat) (i : Slot) (e : StripEntry) : Prop :=
  ∃ x lot r, s.laneSettings (s.lane i) = some x ∧ s.findLot e.lot = some lot ∧
    deviateEntry day (s.lane i) x lot e = some r ∧ e.result = some r

/-- One change of the tables, with the checks it has passed. -/
inductive TableChange (s : State) : State → Prop
  /-- CONFIGURE (R180). -/
  | configure (p : List Byte) : s.config.configured = false → configureValuesOk p = true →
      TableChange s (s.configure p)
  /-- ATTENTION SET (R158). -/
  | attention (p : Port) (m : AttentionMode) (t : Nat) : 1 ≤ t → t ≤ 3 →
      TableChange s (s.setPort p { s.port p with mode := m, threshold := t, owed := 0, pulsing := false })
  /-- FAMILY SET of an UNDEFINED family (R5). -/
  | define (f : FamilyId) (x : Settings) : x.InRange → (s.family f).active = none →
      TableChange s (s.setFamily f (.activate x))
  /-- FAMILY SET of a DEFINED family (R6). -/
  | propose (f : FamilyId) (x act : Settings) : x.InRange → (s.family f).active = some act →
      ((∃ l ∈ s.lots, l.family = f) → x.layout = act.layout) →
      TableChange s (s.setFamily f ⟨some act, some x⟩)
  /-- LOT LOAD (R15). -/
  | loadLot (l : LotRecord) (act : Settings) : LoadedLot s l act →
      TableChange s { s with lots := insertLot l s.lots }
  /-- LOT DROP (R17). -/
  | dropLot (code : Nat) : s.lotInUse code = false → TableChange s (s.dropLot code)
  /-- LANE ENROL (R24). -/
  | enrol (i : Slot) (id : Identity) (f : FamilyId) (x : Settings) : s.vacantSlot = some i →
      s.findLane id = none → (s.family f).active = some x → TableChange s (s.enrol i id f x)
  /-- LANE RETIRE (R26). -/
  | retire (i : Slot) : (s.lane i).state ≠ .vacant → s.dayRunning = false →
      s.rebuildRunning i = false → TableChange s (s.retire i)
  /-- A change of one lane's record. -/
  | editLane (i : Slot) (l : Lane) : LaneEdit s i l → TableChange s (s.setLane i l)
  /-- COHORT SET (R81). -/
  | formCohort (r : CohortRequest) : AdmittedCohort s r → TableChange s (s.formCohort r)
  /-- COHORT DISSOLVE (R83). -/
  | dissolve (c : CohortId) (x : Cohort) : s.cohort c = some x → s.dayRunning = false →
      TableChange s (s.dissolve c x.members)
  /-- A center stored (R90). -/
  | center (c : CohortId) (x : Cohort) (set : Settings) (day count : Nat) (k : SheetNo)
      (cs : List Int) : s.cohort c = some x → (s.family x.family).active = some set →
      centersOf set.plan.length (contributors c x (s.sheet k)) = some cs →
      TableChange s
        (s.setCohort c (some { x with lastDay := some day, centers := some cs, count := count }))
  /-- A day without a center (R90). -/
  | noCenter (c : CohortId) (x : Cohort) (day : Nat) : s.cohort c = some x →
      TableChange s (s.setCohort c (some (x.noCenter day)))
  /-- STRIP READ (R47). -/
  | fileEntry (k : SheetNo) (i : Slot) (day : Nat) (e : StripEntry) : s.openSheet day = some k →
      FiledEntry s i e → TableChange s (s.setEntry k i e)
  /-- DEVIATE of one entry (R103). -/
  | deviate (k : SheetNo) (i : Slot) (day : Nat) (e : StripEntry) (x : Settings) (lot : LotRecord)
      (r : Deviated) : (s.sheet k).entries.get i = some e →
      (s.sheet k).state = .evaluating →
      s.laneSettings (s.lane i) = some x → s.findLot e.lot = some lot →
      deviateEntry day (s.lane i) x lot e = some r →
      TableChange s (s.setEntry k i { e with result := some r })
  /-- The running job goes on to its next stage and position (R98). -/
  | advance (j : Job) (rest : List Job) (st : Stage) : s.queue = j :: rest →
      j.state = .running st →
      (∀ d, j.kind = .day d → ∀ i, st.next.deviated i = true → st.deviated i = false →
        ∀ k e, s.evaluatingSheet d = some k → (s.sheet k).entries.get i = some e →
          EntryDeviated s d i e) →
      TableChange s (s.setStage st.next)
  /-- CLOSE DAY (R53). -/
  | closeDay (d : Nat) (k free : SheetNo) : s.openDay = some d → d + 2 ≤ 65535 →
      s.sheets.cells.countP Sheet.closed < 2 → s.queue.length < 8 → s.openSheet d = some k →
      s.freeSheet = some free → TableChange s (s.closeDay d k free)
  /-- A REBUILD job queued (R109, R125). -/
  | joinRebuild (i : Slot) : (s.lane i).state ≠ .vacant → s.findRebuild i = none →
      s.queue.length < 8 → TableChange s (s.joinJob (.rebuild i))
  /-- A QUEUED REBUILD job cancelled (R112). -/
  | cancelRebuild (j : Job) (i : Slot) : j ∈ s.queue → j.kind = .rebuild i → j.state = .queued →
      TableChange s (s.finishJob j .cancelled)
  /-- A RUNNING REBUILD job ended or aborted (R111, R112). -/
  | endRebuild (j : Job) (i : Slot) (st : Stage) (c : Chart) (r : JobResult) : j ∈ s.queue →
      j.kind = .rebuild i → j.state = .running st → c ≠ .rebuilding →
      TableChange s ((s.setLane i { s.lane i with chart := c }).finishJob j r)
  /-- REBUILD_START (R128). -/
  | startRebuild (j : Job) (rest : List Job) (i : Slot) : s.queue = j :: rest →
      j.state = .queued → j.kind = .rebuild i →
      TableChange s ((s.setLane i (s.lane i).startRebuild).setStage (.replay 0))
  /-- DAY_JOB_START (R102). -/
  | startDay (j : Job) (rest : List Job) (d : Nat) : s.queue = j :: rest → j.state = .queued →
      j.kind = .day d → TableChange s (s.startDayJob d)
  /-- DAY_JOB_END (R107). -/
  | endDay (j : Job) (rest : List Job) (d : Nat) : s.queue = j :: rest →
      j.state = .running .applied → j.kind = .day d →
      TableChange s (({ s with sheets := s.sheets.map (Sheet.endDay d) } : State).finishJob j .done)
  /-- Alert records removed (R155). -/
  | dropAlerts (p : Alert → Bool) : TableChange s (s.setAlerts (s.alerts.filter p))
  /-- A raise (R148 to R151). -/
  | raise (r : Raise) : s.resetAsserted = false →
      (r.kind = .common ↔ ∃ c, r.subject = .cohort c) → TableChange s (s.raise r)
  /-- A free value read by JOB STATUS (log entry 10). -/
  | readFree (n : Nat) : TableChange s { s with fresh := n }
  /-- The unit, the queue and the ring at a warm reset (R115). -/
  | resetUnit : TableChange s s.resetUnit

/-- A chain of changes. -/
abbrev Effect : State → State → Prop := Relation.ReflTransGen TableChange

theorem TableChange.effect {s u : State} (h : TableChange s u) : Effect s u := .single h

/-- Two states with the same tables: the links, the waiting commands and the count of free values read
may differ. -/
structure SameTables (s t : State) : Prop where
  configured : t.config.configured = s.config.configured
  families : t.families = s.families
  lots : t.lots = s.lots
  directory : t.directory = s.directory
  lanes : t.lanes = s.lanes
  openDay : t.openDay = s.openDay
  sheets : t.sheets = s.sheets
  cohorts : t.cohorts = s.cohorts
  queue : t.queue = s.queue
  nextJobId : t.nextJobId = s.nextJobId
  finished : t.finished = s.finished
  alerts : t.alerts = s.alerts
  nextSerial : t.nextSerial = s.nextSerial
  overflow : t.overflow = s.overflow

theorem SameTables.refl (s : State) : SameTables s s := by constructor <;> rfl

/-- A move of the links alone, which keeps their law. -/
structure LinkMove (s t : State) : Prop where
  tables : SameTables s t
  law : LinkLaw s → LinkLaw t

theorem LinkMove.refl (s : State) : LinkMove s s := ⟨.refl s, id⟩

end Sys2Proof.Machine

namespace Sys2Proof.Machine

/-! ### The law of the links under a move of the links -/

theorem LinkLaw.congr {s t : State} (h : LinkLaw s) (hr : t.resetAsserted = s.resetAsserted)
    (hc : t.config = s.config) (hp : t.ports = s.ports) (ha : t.arbiter = s.arbiter)
    (he : t.executor = s.executor) : LinkLaw t := by
  cases s; cases t
  dsimp only at hr hc hp ha he
  subst hr hc hp ha he
  exact { h with port := fun p => { h.port p with } }

/-- The law of the links but for the arbiter's choice, which is due. -/
structure ArbiterDue (s : State) : Prop where
  port : ∀ p, PortLaw s p
  allowance : ∀ p, s.allowance p ≤ 15
  credit : ∀ p, s.credit p ≤ s.allowance p
  resetExecutor : s.resetAsserted = true → s.executor = none
  resetPort : s.resetAsserted = true → ∀ p, (s.port p).commands = [] ∧ (s.port p).responses = [] ∧
    (s.port p).owed = 0 ∧ (s.port p).pulsing = false ∧ ∀ b, (s.port p).period ≠ .active b

theorem LinkLaw.due {s : State} (h : LinkLaw s) : ArbiterDue s := { h with }

theorem reservedPlaces_of_none {s : State} (h : s.executor = none) (p : Port) :
    s.reservedPlaces p = 0 := by simp [State.reservedPlaces, h]

theorem reservedPlaces_of_some {s : State} {x : Held} (h : s.executor = some x) (p : Port) :
    s.reservedPlaces p = if x.port = p then 1 else 0 := by simp [State.reservedPlaces, h]

theorem reservedPlaces_le_one (s : State) (p : Port) : s.reservedPlaces p ≤ 1 := by
  unfold State.reservedPlaces
  split
  · exact Nat.zero_le _
  · split <;> omega

theorem eligible_iff {s : State} {p : Port} : s.eligible p = true ↔
    (s.port p).commands ≠ [] ∧ (s.port p).responses.length + s.reservedPlaces p < 4 := by
  simp [State.eligible, State.freePlace, Config.portPlaces]

/-- A port's law speaks of that port and of its reserved places alone. -/
theorem PortLaw.of_port_eq {s t : State} {p : Port} (h : PortLaw s p) (hp : t.port p = s.port p)
    (hr : t.reservedPlaces p = s.reservedPlaces p) : PortLaw t p := by
  constructor <;> rw [hp]
  · exact h.commands
  · rw [hr]; exact h.responses
  · exact h.threshold
  · exact h.owed
  · exact h.quietOutsidePulse
  · exact h.pulseOwed
  · exact h.sending

/-- A credit set within the port's allowance. -/
theorem ArbiterDue.setCredit {s : State} (h : ArbiterDue s) {p : Port} {n : Nat}
    (hn : n ≤ s.allowance p) : ArbiterDue (s.setCredit p n) where
  port q := (h.port q).of_port_eq rfl rfl
  allowance := h.allowance
  credit q := by
    rw [State.credit_setCredit]
    split
    · rename_i hpq; subst hpq; exact hn
    · exact h.credit q
  resetExecutor := h.resetExecutor
  resetPort := h.resetPort

theorem ArbiterDue.setGrant {s : State} (h : ArbiterDue s) (p : Port) : ArbiterDue (s.setGrant p) where
  port q := (h.port q).of_port_eq rfl rfl
  allowance := h.allowance
  credit := h.credit
  resetExecutor := h.resetExecutor
  resetPort := h.resetPort

/-- A take from an eligible port keeps the law of the links, and the executor is busy (R167, R168). -/
theorem ArbiterDue.take {s : State} (h : ArbiterDue s) {p : Port} (hx : s.executor = none)
    (hr : s.resetAsserted = false) (hp : s.eligible p = true) : LinkLaw (s.take p) := by
  obtain ⟨hcmd, hplace⟩ := eligible_iff.mp hp
  rw [reservedPlaces_of_none hx] at hplace
  obtain ⟨f, rest, hf⟩ := List.exists_cons_of_ne_nil hcmd
  have hdue : ArbiterDue ({ s.setPort p { s.port p with commands := rest } with
      executor := some ⟨p, f⟩ } : State) := by
    refine ⟨fun q => ?_, h.allowance, h.credit, fun hr' => absurd (hr.symm.trans hr') (by decide),
      fun hr' => absurd (hr.symm.trans hr') (by decide)⟩
    have hport : ({ s.setPort p { s.port p with commands := rest } with
        executor := some ⟨p, f⟩ } : State).port q =
        if p = q then { s.port p with commands := rest } else s.port q := s.port_setPort p q _
    have hres : ({ s.setPort p { s.port p with commands := rest } with
        executor := some ⟨p, f⟩ } : State).reservedPlaces q = if p = q then 1 else 0 :=
      reservedPlaces_of_some (x := ⟨p, f⟩) rfl q
    by_cases hq : p = q
    · subst hq
      rw [if_pos rfl] at hport hres
      obtain ⟨h1, h2, h3, h4, h5, h6, h7⟩ := h.port p
      constructor <;> rw [hport]
      · rw [hf] at h1; simp at h1 ⊢; omega
      · rw [hres]; simp; omega
      all_goals assumption
    · rw [if_neg hq] at hport hres
      exact (h.port q).of_port_eq hport (hres.trans (reservedPlaces_of_none hx q).symm)
  have hlink : ∀ u : State, ArbiterDue u → u.executor = some ⟨p, f⟩ → LinkLaw u := fun u hu he =>
    { hu with served := fun hn => by rw [he] at hn; cases hn }
  rw [State.take_of_cons hf]
  split
  · exact hlink _ hdue rfl
  · exact hlink _ (hdue.setCredit (le_trans (Nat.sub_le _ _) (h.credit p))) rfl

/-- The arbiter's choice restores the law of the links (R166, R167). -/
theorem ArbiterDue.arbitrate {s : State} (h : ArbiterDue s) : LinkLaw s.arbitrate := by
  by_cases hb : (s.executor.isSome || s.resetAsserted) = true
  · rw [State.arbitrate_of_busy hb]
    refine { h with served := fun hx hr => ?_ }
    simp [hx, hr] at hb
  · have hx : s.executor = none := by
      cases hx : s.executor <;> simp_all
    have hr : s.resetAsserted = false := by
      cases hr : s.resetAsserted <;> simp_all
    have hreload : ArbiterDue (s.reloadCredit s.arbiter.grant) := h.setCredit le_rfl
    unfold State.arbitrate
    rw [if_neg hb]
    dsimp only
    split
    · rename_i hg
      exact h.take hx hr (Bool.and_eq_true_iff.mp hg).1
    · split
      · rename_i p hp
        exact (hreload.setGrant p).take hx hr (List.find?_some hp)
      · rename_i hnone
        split
        · rename_i hg
          exact hreload.take hx hr hg
        · rename_i hg
          refine { h with served := fun _ _ p => ?_ }
          have hothers : ∀ q ∈ nextPorts s.arbiter.grant, s.eligible q = false := by
            simpa using hnone
          by_cases hpg : p = s.arbiter.grant
          · subst hpg; simpa using hg
          · refine hothers p ?_
            revert hpg
            cases p <;> cases s.arbiter.grant <;> decide

/-- The arbiter's choice is a move of the links. -/
theorem sameTables_arbitrate (s : State) : SameTables s s.arbitrate := by
  obtain ⟨a, b, c, h⟩ := s.arbitrate_frame
  rw [h]; constructor <;> rfl

theorem SameTables.trans {s t u : State} (h : SameTables s t) (h' : SameTables t u) :
    SameTables s u where
  configured := h'.configured.trans h.configured
  families := h'.families.trans h.families
  lots := h'.lots.trans h.lots
  directory := h'.directory.trans h.directory
  lanes := h'.lanes.trans h.lanes
  openDay := h'.openDay.trans h.openDay
  sheets := h'.sheets.trans h.sheets
  cohorts := h'.cohorts.trans h.cohorts
  queue := h'.queue.trans h.queue
  nextJobId := h'.nextJobId.trans h.nextJobId
  finished := h'.finished.trans h.finished
  alerts := h'.alerts.trans h.alerts
  nextSerial := h'.nextSerial.trans h.nextSerial
  overflow := h'.overflow.trans h.overflow

theorem SameTables.setPort (s : State) (p : Port) (x : PortState) : SameTables s (s.setPort p x) := by
  constructor <;> rfl

/-- A port replaced by one that meets its law, the executor as it was. -/
theorem ArbiterDue.setPort {s : State} (h : ArbiterDue s) {p : Port} {x : PortState}
    (hr : s.resetAsserted = false) (hx : PortLaw (s.setPort p x) p) :
    ArbiterDue (s.setPort p x) where
  port q := by
    by_cases hq : p = q
    · subst hq; exact hx
    · exact (h.port q).of_port_eq (s.port_setPort_ne x hq) rfl
  allowance := h.allowance
  credit := h.credit
  resetExecutor hr' := absurd (hr.symm.trans hr') (by decide)
  resetPort hr' := absurd (hr.symm.trans hr') (by decide)

/-- A port whose frames and placed responses are as they were. -/
theorem LinkLaw.setPort {s : State} (h : LinkLaw s) {p : Port} {x : PortState}
    (hx : PortLaw (s.setPort p x) p) (hc : x.commands = (s.port p).commands)
    (hr : x.responses = (s.port p).responses)
    (hreset : s.resetAsserted = true → x.owed = 0 ∧ x.pulsing = false ∧ ∀ b, x.period ≠ .active b) :
    LinkLaw (s.setPort p x) where
  port q := by
    by_cases hq : p = q
    · subst hq; exact hx
    · exact (h.port q).of_port_eq (s.port_setPort_ne x hq) rfl
  allowance := h.allowance
  credit := h.credit
  served he hn q := by
    rw [← Bool.not_eq_true, eligible_iff, State.port_setPort]
    have := h.served he hn q
    rw [← Bool.not_eq_true, eligible_iff] at this
    split
    · rename_i hq; subst hq; rw [hc, hr]; exact this
    · exact this
  resetExecutor := h.resetExecutor
  resetPort hn q := by
    rw [State.port_setPort]
    obtain ⟨h1, h2, h3, h4, h5⟩ := h.resetPort hn q
    split
    · rename_i hq; subst hq
      obtain ⟨h6, h7, h8⟩ := hreset hn
      exact ⟨hc.trans h1, hr.trans h2, h6, h7, h8⟩
    · exact ⟨h1, h2, h3, h4, h5⟩

/-! ### Moves of the links -/

/-- A response placed in a free place. -/
theorem ArbiterDue.placeResponse {s : State} (h : ArbiterDue s) {p : Port} (r : Response)
    (hr : s.resetAsserted = false)
    (hfree : (s.port p).responses.length + s.reservedPlaces p < 4) :
    ArbiterDue (s.placeResponse p r) := by
  refine h.setPort hr ?_
  obtain ⟨h1, h2, h3, h4, h5, h6, h7⟩ := h.port p
  have hres : (s.setPort p { s.port p with
    responses := (s.port p).responses ++ [r] }).reservedPlaces p = s.reservedPlaces p := rfl
  constructor <;> rw [State.port_setPort_self]
  · exact h1
  · rw [hres]; simp; omega
  · exact h3
  · exact h4
  · exact h5
  · exact h6
  · simp

/-- The answer of the held command is a move of the links (R167, R168). -/
theorem LinkMove.answer {s : State} {h : Held} (hx : s.executor = some h) (st : Status)
    (pl : List Byte) : LinkMove s (answer h st pl s) where
  tables := by
    obtain ⟨a, b, c, e⟩ := answer_frame h st pl s
    rw [e]; constructor <;> rfl
  law hl := by
    have hr : s.resetAsserted = false := by
      by_contra hr
      rw [hl.resetExecutor (by simpa using hr)] at hx; cases hx
    have hfree : ArbiterDue ({ s with executor := none } : State) := by
      refine ⟨fun q => ?_, hl.allowance, hl.credit, fun _ => rfl, hl.resetPort⟩
      obtain ⟨h1, h2, h3, h4, h5, h6, h7⟩ := hl.port q
      exact ⟨h1, le_trans (Nat.add_le_add_left (Nat.zero_le _) _) h2, h3, h4, h5, h6, h7⟩
    refine (hfree.placeResponse _ hr ?_).arbitrate
    have h2 := (hl.port h.port).responses
    rw [reservedPlaces_of_some hx, if_pos rfl] at h2
    exact h2

/-- The waiting commands are no part of the links' law. -/
theorem LinkMove.pending (s : State) (cs : List Instr) : LinkMove s { s with pending := cs } :=
  ⟨by constructor <;> rfl, fun h => h.congr rfl rfl rfl rfl rfl⟩

theorem LinkMove.selectAssert {p : Port} {s t : State} (e : execSelectAssert p s = .next t) :
    LinkMove s t := by
  unfold execSelectAssert at e
  split at e
  · cases e
    refine ⟨.setPort s p _, fun h => ?_⟩
    obtain ⟨h1, h2, h3, h4, h5, h6, h7⟩ := h.port p
    refine h.setPort ?_ rfl rfl fun hr => ?_
    · constructor <;> rw [State.port_setPort_self]
      · exact h1
      · exact h2
      · exact h3
      · exact h4
      · exact h5
      · exact h6
      · dsimp only
        split
        · simp
        · simp
    · obtain ⟨-, -, ho, hp, -⟩ := h.resetPort hr p
      exact ⟨ho, hp, fun b => by simp [hr]⟩
  · cases e; exact .refl s
  · cases e; exact .refl s

theorem LinkMove.responseSent {p : Port} {s t : State} (e : execResponseSent p s = .next t) :
    LinkMove s t := by
  unfold execResponseSent at e
  split at e
  · rename_i r rest hperiod hresp
    cases e
    refine ⟨(SameTables.setPort s p _).trans (sameTables_arbitrate _), fun h => ?_⟩
    have hr : s.resetAsserted = false := by
      by_contra hr
      exact (h.resetPort (by simpa using hr) p).2.2.2.2 true hperiod
    refine (h.due.setPort hr ?_).arbitrate
    obtain ⟨h1, h2, h3, h4, h5, h6, h7⟩ := h.port p
    have hres : (s.setPort p { s.port p with
      period := .active false, responses := rest }).reservedPlaces p = s.reservedPlaces p := rfl
    rw [hresp, List.length_cons] at h2
    constructor <;> rw [State.port_setPort_self]
    · exact h1
    · rw [hres]; dsimp only; omega
    · exact h3
    · exact h4
    · exact h5
    · exact h6
    · simp
  · cases e; exact .refl s

/-- What arrives at a port keeps all of the law but the arbiter's choice (R162, R163, R165). -/
theorem ArbiterDue.receive {s : State} (h : ArbiterDue s) {p : Port} (hr : s.resetAsserted = false)
    (x : Arrival) : ArbiterDue (s.receive p x) := by
  obtain ⟨h1, h2, h3, h4, h5, h6, h7⟩ := h.port p
  have place : ∀ r, s.freePlace p = true → ArbiterDue (s.placeResponse p r) := fun r hf =>
    h.placeResponse r hr (by simpa [State.freePlace, Config.portPlaces] using hf)
  unfold State.receive
  split
  · exact h
  · split
    · exact place _ ‹_›
    · exact h
  · rename_i f
    split
    · refine h.setPort hr ?_
      constructor <;> rw [State.port_setPort_self]
      · exact Nat.zero_le _
      · exact (Nat.add_le_add_left (reservedPlaces_le_one _ p) 1).trans (by decide)
      · exact h3
      · exact h4
      · exact h5
      · exact h6
      · simp
    · split
      · rename_i hroom
        refine h.setPort hr ?_
        constructor <;> rw [State.port_setPort_self]
        · simp [Config.portPlaces] at hroom ⊢; omega
        · exact h2
        · exact h3
        · exact h4
        · exact h5
        · exact h6
        · exact h7
      · split
        · exact place _ ‹_›
        · exact h

/-- The end of a select period is a move of the links (R159). -/
theorem LinkMove.arrive (s : State) (p : Port) (x : Arrival) : LinkMove s (s.arrive p x) where
  tables := by
    obtain ⟨a, b, c, e⟩ := s.arrive_frame p x
    rw [e]; constructor <;> rfl
  law h := by
    have hidle : LinkLaw (s.setPeriod p .idle) := by
      obtain ⟨h1, h2, h3, h4, h5, h6, -⟩ := h.port p
      refine h.setPort ?_ rfl rfl fun hr => ?_
      · constructor <;> rw [State.port_setPort_self]
        · exact h1
        · exact h2
        · exact h3
        · exact h4
        · exact h5
        · exact h6
        · simp
      · obtain ⟨-, -, ho, hp, -⟩ := h.resetPort hr p
        exact ⟨ho, hp, fun b => by simp⟩
    unfold State.arrive
    split
    · exact h
    · exact hidle
    · split
      · exact hidle
      · rename_i hr
        exact (hidle.due.receive (by simpa using hr) x).arbitrate

theorem LinkMove.unknownCommand {s t : State} (e : execUnknownCommand s = .next t) :
    LinkMove s t := by
  unfold execUnknownCommand at e
  split at e
  · cases e; exact .refl s
  · rename_i h hx
    split at e
    · cases e; exact .refl s
    · cases e; exact .answer hx _ _

theorem LinkMove.pulseStart {p : Port} {s t : State} (e : execPulseStart p s = .next t) :
    LinkMove s t := by
  unfold execPulseStart at e
  split at e
  · rename_i hc
    obtain ⟨hmode, howed, -, hr⟩ := hc
    cases e
    refine ⟨.setPort s p _, fun h => ?_⟩
    obtain ⟨h1, h2, h3, h4, h5, h6, h7⟩ := h.port p
    refine h.setPort ?_ rfl rfl fun hr' => absurd (hr.symm.trans hr') (by decide)
    constructor <;> rw [State.port_setPort_self]
    · exact h1
    · exact h2
    · exact h3
    · exact h4
    · exact fun hne => absurd hmode hne
    · exact fun _ => howed
    · exact h7
  · cases e; exact .refl s

theorem LinkMove.pulseEnd {p : Port} {s t : State} (e : execPulseEnd p s = .next t) :
    LinkMove s t := by
  unfold execPulseEnd at e
  split at e
  · rename_i hp
    cases e
    refine ⟨.setPort s p _, fun h => ?_⟩
    obtain ⟨h1, h2, h3, h4, h5, h6, h7⟩ := h.port p
    refine h.setPort ?_ rfl rfl fun hr => ?_
    · constructor <;> rw [State.port_setPort_self]
      · exact h1
      · exact h2
      · exact h3
      · exact le_trans (Nat.sub_le _ _) h4
      · exact fun hne => ⟨by rw [(h5 hne).1], rfl⟩
      · simp
      · exact h7
    · obtain ⟨-, -, -, hf, -⟩ := h.resetPort hr p
      rw [hp] at hf; cases hf
  · cases e; exact .refl s

theorem LinkMove.resetRelease {s t : State} (e : execResetRelease s = .next t) : LinkMove s t := by
  unfold execResetRelease at e
  split at e
  · cases e
    refine ⟨.trans (by constructor <;> rfl) (sameTables_arbitrate _), fun h => ?_⟩
    refine ArbiterDue.arbitrate ⟨fun q => (h.port q).of_port_eq rfl rfl, h.allowance, h.credit,
      fun hr => (by cases hr), fun hr => (by cases hr)⟩
  · cases e; exact .refl s

/-- The links at a warm reset (R158, R164, R166, R168). -/
theorem LinkMove.resetLinks (s : State) : LinkMove s s.resetLinks where
  tables := by constructor <;> rfl
  law h := by
    have hport : ∀ p, s.resetLinks.port p = (s.port p).warmReset := fun p => PerPort.get_map _ _ p
    refine ⟨fun p => ?_, h.allowance, fun p => le_rfl, fun _ hr => (by cases hr), fun _ => rfl,
      fun _ p => ?_⟩
    · constructor <;> rw [hport]
      · exact Nat.zero_le _
      · rw [reservedPlaces_of_none rfl]; exact Nat.zero_le _
      · exact (h.port p).threshold
      · exact Nat.zero_le _
      · exact fun _ => ⟨rfl, rfl⟩
      · intro hp; cases hp
      · unfold PortState.warmReset; dsimp only; split <;> simp
    · rw [hport]
      refine ⟨rfl, rfl, rfl, rfl, fun b => ?_⟩
      unfold PortState.warmReset; dsimp only; split <;> simp

end Sys2Proof.Machine

namespace Sys2Proof.Machine

/-! ### What the executor's commands do to the tables -/

/-- The tables after a reply come from those before by a chain of changes. -/
def Reply.EffectOf (s : State) : Reply → Prop
  | .done u _ _ => Effect s u
  | .broken _ => True

theorem Reply.effectOf_same (s : State) (st : Status) (pl : List Byte) :
    (Reply.done s st pl).EffectOf s := Relation.ReflTransGen.refl

theorem Reply.effectOf_refuse (s : State) (st : Status) : (Reply.refuse s st).EffectOf s :=
  Relation.ReflTransGen.refl

theorem Reply.effectOf_change {s u : State} (h : TableChange s u) (st : Status) (pl : List Byte) :
    (Reply.done u st pl).EffectOf s := h.effect

/-- A slot that passes the checks of R22. -/
theorem checkSlot_eq_ok {s : State} {n : Nat} {i : Slot} (h : s.checkSlot n = .ok i) :
    (s.lane i).state ≠ .vacant := by
  unfold State.checkSlot at h
  split at h
  · cases h
  · split at h
    · cases h
    · cases h; assumption

theorem identifyBody_effect (h : Held) (s : State) : (identifyBody h s).EffectOf s :=
  Reply.effectOf_same ..

theorem statusBody_effect (h : Held) (s : State) : (statusBody h s).EffectOf s :=
  Reply.effectOf_same ..

theorem configureBody_effect (h : Held) (s : State) : (configureBody h s).EffectOf s := by
  unfold configureBody
  dsimp only
  split
  · exact Reply.effectOf_refuse ..
  · split
    · exact Reply.effectOf_refuse ..
    · rename_i hc hv
      exact Reply.effectOf_change (.configure _ (by simpa using hc) (by simpa using hv)) ..

theorem attentionSetBody_effect (h : Held) (s : State) : (attentionSetBody h s).EffectOf s := by
  unfold attentionSetBody
  dsimp only
  split
  · exact Reply.effectOf_refuse ..
  · split
    · exact Reply.effectOf_refuse ..
    · exact Reply.effectOf_change (.attention _ _ _ (by omega) (by omega)) ..

theorem jobStatusBody_effect (h : Held) (s : State) : (jobStatusBody h s).EffectOf s := by
  unfold jobStatusBody
  dsimp only
  split
  · rename_i j _
    unfold State.freshAfter
    split
    · exact Reply.effectOf_change (.readFree _) ..
    all_goals exact Reply.effectOf_same ..
  · split
    · exact Reply.effectOf_same ..
    · exact Reply.effectOf_refuse ..

/-- Settings that a payload gives are in range (R4). -/
theorem settingsOf_inRange {p : List Byte} {x : Settings} (h : settingsOf p = some x) :
    x.InRange := by
  obtain ⟨act, plan, -, hplan, ⟨h1, h2, h3, h4, h5, h6, h7, h8, h9, h10, h11⟩, rfl⟩ :=
    settingsOf_eq_some h
  have hlen : plan.length = byteAt p 8 := by simpa using allSome_length hplan
  refine ⟨⟨h1, h2⟩, by dsimp only; omega, fun e he => ?_, ⟨h5, h6⟩, ⟨h7, h8⟩, h9, h10, h11⟩
  have hmem : some e ∈ (List.range (byteAt p 8)).map
      fun i => planEntryAt p (byteAt p 1) (9 + 10 * i) := by
    rw [allSome_eq_some.mp hplan]; exact List.mem_map_of_mem he
  obtain ⟨i, -, hi⟩ := List.mem_map.mp hmem
  obtain ⟨hsh, -, -, -, hw1, hw2, hwa, ha, ht1, ht2⟩ := planEntryAt_eq_some hi
  refine ⟨⟨hw1, hw2⟩, ⟨hwa, ha⟩, ⟨ht1, ht2⟩, ?_⟩
  rcases shapeOf_eq_some hsh with ⟨c, -, -, hlt, -, hs⟩ | ⟨c, -, hlt, hlt', hne, -, hs⟩
  · rw [hs]; exact hlt
  · rw [hs]; exact ⟨hlt, hlt', hne⟩

theorem familySetBody_effect (h : Held) (s : State) : (familySetBody h s).EffectOf s := by
  unfold familySetBody
  dsimp only
  split
  · exact Reply.effectOf_refuse ..
  · split
    · exact Reply.effectOf_refuse ..
    · rename_i x hx
      split
      · exact Reply.effectOf_change (.define _ _ (settingsOf_inRange hx) ‹_›) ..
      · split
        · exact Reply.effectOf_refuse ..
        · rename_i hno
          refine Reply.effectOf_change (.propose _ _ _ (settingsOf_inRange hx) ‹_› fun hl => ?_) ..
          by_contra hne
          exact hno ⟨lotCount_pos_iff.mpr hl, hne⟩

theorem familyGetBody_effect (h : Held) (s : State) : (familyGetBody h s).EffectOf s := by
  unfold familyGetBody
  split
  · exact Reply.effectOf_refuse ..
  · exact Reply.effectOf_same ..

theorem byteAt_lt (p : List Byte) (i : Nat) : byteAt p i < 256 := (p.getD i 0).isLt

theorem wordAt_le (p : List Byte) (i : Nat) : wordAt p i ≤ 65535 := by
  have h1 := byteAt_lt p i
  have h2 := byteAt_lt p (i + 1)
  unfold wordAt; omega

theorem mem_shiftList {n : Nat} {pairs : List (Nat × Int)} {v : Int}
    (h : some v ∈ shiftList n pairs) : ∃ q ∈ pairs, q.2 = v := by
  obtain ⟨i, -, hi⟩ := List.mem_map.mp h
  obtain ⟨q, hq, rfl⟩ := Option.map_eq_some_iff.mp hi
  exact ⟨q, List.mem_of_find?_eq_some hq, rfl⟩

theorem lotLoadBody_effect (h : Held) (s : State) : (lotLoadBody h s).EffectOf s := by
  unfold lotLoadBody
  dsimp only
  split
  · exact Reply.effectOf_refuse ..
  rename_i f hf
  split
  · exact Reply.effectOf_refuse ..
  rename_i hcode
  split
  · exact Reply.effectOf_refuse ..
  rename_i act ha
  split
  · exact Reply.effectOf_refuse ..
  rename_i hw
  split
  · exact Reply.effectOf_refuse ..
  rename_i hlayout
  split
  · exact Reply.effectOf_refuse ..
  rename_i hvalues
  split
  · exact Reply.effectOf_refuse ..
  rename_i hdup
  split
  · exact Reply.effectOf_refuse ..
  rename_i hfull
  split
  · trivial
  rename_i aims haims
  obtain ⟨hd, hpairs, -⟩ := lotValuesOk_iff.mp (by simpa using hvalues)
  have hpatch : byteAt h.frame.payload 3 = act.patchCount := not_not.mp hlayout
  rw [pending_any_iff] at hw
  refine Reply.effectOf_change (.loadLot ⟨wordAt h.frame.payload 0, f, _, _, aims⟩ act
    { code := ⟨Nat.one_le_iff_ne_zero.mpr hcode, wordAt_le _ _⟩
      active := ha
      pending := fun y hy => not_not.mp fun hne => hw ⟨y, hy, hne⟩
      published := (wordsAt_length ..).trans (by rw [hpatch, Nat.mul_comm])
      densities := hd
      shifts := shiftList_length _ _
      shiftRange := fun v hv => ?_
      aims := haims
      fresh := findLot_eq_none_iff.mp (by simpa using hdup)
      room := by simpa [Config.maxLots] using hfull }) ..
  obtain ⟨q, hq, rfl⟩ := mem_shiftList hv
  exact (hpairs q hq).2

theorem lotDropBody_effect (h : Held) (s : State) : (lotDropBody h s).EffectOf s := by
  unfold lotDropBody
  dsimp only
  split
  · exact Reply.effectOf_refuse ..
  · split
    · exact Reply.effectOf_refuse ..
    · rename_i hu
      exact Reply.effectOf_change (.dropLot _ (by simpa using hu)) ..

theorem lotGetBody_effect (h : Held) (s : State) : (lotGetBody h s).EffectOf s := by
  unfold lotGetBody
  dsimp only
  split
  · exact Reply.effectOf_same ..
  · split
    · exact Reply.effectOf_refuse ..
    · exact Reply.effectOf_same ..

theorem laneEnrolBody_effect (h : Held) (s : State) : (laneEnrolBody h s).EffectOf s := by
  unfold laneEnrolBody
  dsimp only
  split
  · exact Reply.effectOf_refuse ..
  split
  · exact Reply.effectOf_refuse ..
  split
  · exact Reply.effectOf_refuse ..
  split
  · exact Reply.effectOf_refuse ..
  rename_i hid
  split
  · exact Reply.effectOf_refuse ..
  · exact Reply.effectOf_change (.enrol _ _ _ _ ‹_› (by simpa using hid) ‹_›) ..

theorem laneRetireBody_effect (h : Held) (s : State) : (laneRetireBody h s).EffectOf s := by
  unfold laneRetireBody
  split
  · exact Reply.effectOf_refuse ..
  · rename_i i hi
    split
    · exact Reply.effectOf_refuse ..
    · rename_i hbusy
      rw [Bool.not_eq_true, Bool.or_eq_false_iff] at hbusy
      exact Reply.effectOf_change (.retire i (checkSlot_eq_ok hi) hbusy.1 hbusy.2) ..

theorem lotAssignBody_effect (h : Held) (s : State) : (lotAssignBody h s).EffectOf s := by
  unfold lotAssignBody
  split
  · exact Reply.effectOf_refuse ..
  · rename_i i hi
    dsimp only
    split
    · exact Reply.effectOf_refuse ..
    · rename_i lot hlot
      split
      · exact Reply.effectOf_refuse ..
      · rename_i hf
        obtain ⟨hmem, hcode⟩ := findLot_eq_some hlot
        rw [← hcode]
        exact Reply.effectOf_change
          (.editLane i _ (.assign lot (checkSlot_eq_ok hi) hmem (not_not.mp hf))) ..

theorem laneSuspendBody_effect (h : Held) (s : State) : (laneSuspendBody h s).EffectOf s := by
  unfold laneSuspendBody
  split
  · exact Reply.effectOf_refuse ..
  · rename_i i hi
    exact Reply.effectOf_change (.editLane i _ (.suspend (checkSlot_eq_ok hi))) ..

theorem laneResumeBody_effect (h : Held) (s : State) : (laneResumeBody h s).EffectOf s := by
  unfold laneResumeBody
  split
  · exact Reply.effectOf_refuse ..
  · rename_i i hi
    dsimp only
    split
    · exact Reply.effectOf_refuse ..
    · split
      · trivial
      · trivial
      · exact Reply.effectOf_change (.editLane i _ (.resume _ _ (not_not.mp ‹_›) ‹_›)) ..

theorem readSlot_effect (s : State) (i : Slot) : (readSlot s i).EffectOf s := by
  unfold readSlot
  dsimp only
  split
  · exact Reply.effectOf_same ..
  · split
    · trivial
    · exact Reply.effectOf_same ..

theorem readLaneBody_effect (h : Held) (s : State) : (readLaneBody h s).EffectOf s := by
  unfold readLaneBody
  dsimp only
  split
  · split
    · exact Reply.effectOf_refuse ..
    · exact readSlot_effect ..
  · split
    · split
      · exact Reply.effectOf_refuse ..
      · exact readSlot_effect ..
    · exact Reply.effectOf_refuse ..

/-- The modes that R80 check 1 accepts. -/
theorem cohortModeOf_eq_some {mode quorum anchor : Nat} {members : List Slot} {m : CohortMode}
    (h : cohortModeOf mode quorum anchor members = some m) :
    (∃ q, 3 ≤ q ∧ q ≤ 16 ∧ m = .median q) ∨ ∃ a ∈ members, m = .anchor (some a) := by
  unfold cohortModeOf at h
  split at h
  · split at h
    · rename_i hq
      cases h; exact .inl ⟨_, hq.1, hq.2.1, rfl⟩
    · cases h
  · split at h
    · split at h
      · cases h
      · split at h
        · rename_i ha
          cases h; exact .inr ⟨_, by simpa using ha, rfl⟩
        · cases h
    · cases h

theorem cohortRequestOf_eq_some {p : List Byte} {r : CohortRequest} (h : cohortRequestOf p = some r) :
    r.members.Nodup ∧ r.members.length ≤ 16 ∧
      ((∃ q, 3 ≤ q ∧ q ≤ 16 ∧ r.mode = .median q) ∨
        ∃ a ∈ r.members, r.mode = .anchor (some a)) := by
  unfold cohortRequestOf at h
  split at h
  · split at h
    · cases h
    · rename_i hno
      obtain ⟨m, hm, rfl⟩ := Option.map_eq_some_iff.mp h
      obtain ⟨-, hlen, hnd⟩ : _ ∧ _ ∧ _ := by simpa only [not_or, not_not] using hno
      exact ⟨hnd, not_lt.mp hlen, cohortModeOf_eq_some hm⟩
  · cases h

/-- Members that pass R80 checks 3 to 5. -/
theorem memberRefusal_eq_none {s : State} {r : CohortRequest} (h : memberRefusal s r = none) :
    ∀ i ∈ r.members, (s.lane i).state ≠ .vacant ∧ (s.lane i).family = some r.family ∧
      ((s.lane i).cohort = none ∨ (s.lane i).cohort = some r.id) := by
  unfold memberRefusal at h
  split at h
  · cases h
  rename_i h1
  split at h
  · cases h
  rename_i h2
  split at h
  · cases h
  rename_i h3
  intro i hi
  refine ⟨by simpa using List.find?_eq_none.mp h1 i hi, by simpa using List.find?_eq_none.mp h2 i hi,
    ?_⟩
  have := List.find?_eq_none.mp h3 i hi
  cases hc : (s.lane i).cohort with
  | none => exact .inl rfl
  | some c => exact .inr (by simpa [hc] using this)

theorem cohortSetBody_effect (h : Held) (s : State) : (cohortSetBody h s).EffectOf s := by
  unfold cohortSetBody
  split
  · exact Reply.effectOf_refuse ..
  rename_i r hr
  split
  · exact Reply.effectOf_refuse ..
  rename_i hfam
  split
  · exact Reply.effectOf_same ..
  rename_i hmem
  split
  · exact Reply.effectOf_refuse ..
  rename_i hday
  obtain ⟨hnd, hlen, hmode⟩ := cohortRequestOf_eq_some hr
  refine Reply.effectOf_change (.formCohort r
    { family := Option.ne_none_iff_exists'.mp (by simpa using hfam)
      distinct := hnd
      size := hlen
      members := memberRefusal_eq_none hmem
      quorum := fun q hq => ?_
      anchor := fun a ha => ?_
      idle := by simpa using hday }) ..
  · rcases hmode with ⟨q', h1, h2, h⟩ | ⟨a, -, h⟩ <;> rw [h] at hq <;> cases hq
    exact ⟨h1, h2⟩
  · rcases hmode with ⟨q', -, -, h⟩ | ⟨a', hm, h⟩ <;> rw [h] at ha <;> cases ha
    exact hm

theorem cohortDissolveBody_effect (h : Held) (s : State) : (cohortDissolveBody h s).EffectOf s := by
  unfold cohortDissolveBody
  split
  · exact Reply.effectOf_refuse ..
  · split
    · exact Reply.effectOf_refuse ..
    · split
      · exact Reply.effectOf_refuse ..
      · rename_i x hx hday
        exact Reply.effectOf_change (.dissolve _ x hx (by simpa using hday)) ..

theorem readCohortBody_effect (h : Held) (s : State) : (readCohortBody h s).EffectOf s := by
  unfold readCohortBody
  split
  · exact Reply.effectOf_refuse ..
  · split
    · exact Reply.effectOf_same ..
    · split
      · trivial
      · exact Reply.effectOf_same ..

/-- Received patches put in strip order are as many as were received (R31, R47). -/
theorem stripOrder_length (reverse : Bool) {n : Nat} {ds : List Nat} (h : ds.length = n * 3) :
    (stripOrder reverse n ds).length = n * 3 := by
  unfold stripOrder
  split
  · have hthree : ∀ i ∈ List.range n, ((ds.drop (3 * (n - 1 - i))).take 3).length = 3 := by
      intro i hi
      have := List.mem_range.mp hi
      rw [List.length_take, List.length_drop]; omega
    rw [List.length_flatMap, List.map_congr_left hthree]
    simp
  · exact h

theorem intakeEntry_filed {s : State} {i : Slot} {code n : Nat} {x : Settings}
    {old : Option StripEntry} {reverse : Bool} {received : List Nat}
    (hlot : (s.lane i).hasLot code = true) (hx : s.laneSettings (s.lane i) = some x)
    (hn : n = x.patchCount) (hlen : received.length = n * 3) :
    FiledEntry s i (intakeEntry old code n reverse received) where
  lot := hlot
  raw := ⟨x, hx, by
    show ((stripOrder reverse n received).map _).length = _
    rw [List.length_map, stripOrder_length _ hlen, hn, Nat.mul_comm]⟩
  densities v hv := by
    obtain ⟨w, -, rfl⟩ := List.mem_map.mp hv
    exact min_le_left ..
  rerun := by
    unfold intakeEntry
    dsimp only
    split
    · exact Nat.zero_le _
    · exact min_le_left ..
  result := rfl

theorem fileStrip_effect (p : List Byte) (s : State) (i : Slot) (day : Nat) :
    (fileStrip p s i day).EffectOf s := by
  unfold fileStrip
  dsimp only
  split
  · exact Reply.effectOf_refuse ..
  split
  · exact Reply.effectOf_refuse ..
  split
  · exact Reply.effectOf_refuse ..
  rename_i hlot
  split
  · trivial
  rename_i x hx
  split
  · exact Reply.effectOf_refuse ..
  rename_i hn
  split
  · exact Reply.effectOf_refuse ..
  split
  · trivial
  rename_i k hk
  exact Reply.effectOf_change (.fileEntry k i day _ hk
    (intakeEntry_filed (by simpa using hlot) hx (not_not.mp hn) (wordsAt_length ..))) ..

theorem stripReadBody_effect (h : Held) (s : State) : (stripReadBody h s).EffectOf s := by
  unfold stripReadBody
  dsimp only
  split
  · exact Reply.effectOf_refuse ..
  split
  · exact Reply.effectOf_refuse ..
  split
  · trivial
  split
  · exact Reply.effectOf_refuse ..
  split
  · exact Reply.effectOf_refuse ..
  · exact fileStrip_effect ..

theorem findLane_eq_some {s : State} {id : Identity} {i : Slot} (h : s.findLane id = some i) :
    (id, i) ∈ s.directory := by
  obtain ⟨e, he, rfl⟩ := Option.map_eq_some_iff.mp h
  have : e.1 = id := by simpa using List.find?_some he
  rw [← this]
  exact List.mem_of_find?_eq_some he

/-- A lane's record stored twice is the second record. -/
theorem State.setLane_setLane (s : State) (i : Slot) (l m : Lane) :
    (s.setLane i l).setLane i m = s.setLane i m := by
  have : (s.lanes.set i l).set i m = s.lanes.set i m :=
    Table.ext_cells (by simp)
  simp only [State.setLane, this]

/-- A lane's record edited twice. -/
theorem Effect.editLaneAgain {s u : State} {i : Slot} {l m : Lane} (h : Effect u (s.setLane i l))
    (hm : LaneEdit (s.setLane i l) i m) : Effect u (s.setLane i m) := by
  rw [← s.setLane_setLane i l m]
  exact h.tail (.editLane i m hm)

theorem candidateOffsets_length {n : Nat} {reverse : Bool} {received published : List Nat}
    (hr : received.length = n * 3) (hp : published.length = 3 * n) :
    (candidateOffsets n reverse received published).length = published.length := by
  unfold candidateOffsets
  rw [List.length_zipWith, stripOrder_length _ hr]; omega

theorem storeReference_effect {p : List Byte} {s : State} {id : Identity} {i : Slot} {x : Settings}
    {lot : LotRecord} {rev : Bool} (hi : (id, i) ∈ s.directory) (hlot : lot ∈ s.lots)
    (hhas : (s.lane i).hasLot lot.code = true) (hx : s.laneSettings (s.lane i) = some x)
    (hn : byteAt p 6 = x.patchCount) : (storeReference p s i x lot rev).EffectOf s := by
  unfold storeReference
  dsimp only
  split
  · rename_i hok
    have hoffsets : LaneEdit s i ((s.lane i).storeOffsets lot.code
        (candidateOffsets (byteAt p 6) rev (wordsAt p 7 (byteAt p 6 * 3)) lot.published)).1 := by
      refine .offsets id lot _ hi hlot hhas (fun o ho => ?_) fun y hy hlen => ?_
      · have := List.all_eq_true.mp hok o ho
        simpa [offsetOk, Config.maxOffset] using this
      · rw [hx] at hy; cases hy
        exact candidateOffsets_length (wordsAt_length ..) (by rw [hlen, hn])
    have hstored := (TableChange.editLane i _ hoffsets).effect
    split
    · have hreload : ∀ l, LaneEdit (s.setLane i l) i (l.reload x) := fun l => by
        simpa using LaneEdit.reload (s := s.setLane i l) (i := i) id x hi
      exact hstored.editLaneAgain (hreload _)
    · exact hstored
  · exact Reply.effectOf_same ..

theorem referenceReadBody_effect (h : Held) (s : State) : (referenceReadBody h s).EffectOf s := by
  unfold referenceReadBody
  dsimp only
  split
  · exact Reply.effectOf_refuse ..
  rename_i i hi
  split
  · exact Reply.effectOf_refuse ..
  rename_i lot hlot
  split
  · exact Reply.effectOf_refuse ..
  rename_i hhas
  split
  · trivial
  rename_i x hx
  split
  · exact Reply.effectOf_refuse ..
  rename_i hn
  split
  · exact Reply.effectOf_refuse ..
  exact storeReference_effect (findLane_eq_some hi) (findLot_eq_some hlot).1 (by simpa using hhas) hx
    (not_not.mp hn)

theorem readSheetEntryBody_effect (h : Held) (s : State) : (readSheetEntryBody h s).EffectOf s := by
  unfold readSheetEntryBody
  dsimp only
  split
  · exact Reply.effectOf_refuse ..
  split
  · trivial
  split
  · exact Reply.effectOf_refuse ..
  split
  · exact Reply.effectOf_refuse ..
  split
  · trivial
  split
  · exact Reply.effectOf_same ..
  · exact Reply.effectOf_same ..

theorem closeDayBody_effect (h : Held) (s : State) : (closeDayBody h s).EffectOf s := by
  unfold closeDayBody
  dsimp only
  split
  · exact Reply.effectOf_refuse ..
  rename_i hopen
  split
  · exact Reply.effectOf_refuse ..
  rename_i hday
  split
  · exact Reply.effectOf_refuse ..
  rename_i hclosed
  split
  · exact Reply.effectOf_refuse ..
  rename_i hjobs
  split
  · exact Reply.effectOf_change (.closeDay _ _ _ (not_not.mp hopen) (not_lt.mp hday)
      (not_le.mp hclosed) (not_le.mp hjobs) ‹_› ‹_›) ..
  · trivial

theorem rebuildBody_effect (h : Held) (s : State) : (rebuildBody h s).EffectOf s := by
  unfold rebuildBody
  split
  · exact Reply.effectOf_refuse ..
  rename_i i hi
  split
  · exact Reply.effectOf_refuse ..
  split
  · exact Reply.effectOf_same ..
  split
  · exact Reply.effectOf_refuse ..
  · exact Reply.effectOf_change (.joinRebuild i (checkSlot_eq_ok hi) ‹_› (not_le.mp ‹_›)) ..

theorem cancelJobBody_effect (h : Held) (s : State) : (cancelJobBody h s).EffectOf s := by
  unfold cancelJobBody
  split
  · exact Reply.effectOf_refuse ..
  rename_i j hj
  have hmem := List.mem_of_find?_eq_some hj
  split
  · exact Reply.effectOf_refuse ..
  rename_i i hk
  split
  · exact Reply.effectOf_change (.cancelRebuild j i hmem hk ‹_›) ..
  · exact Reply.effectOf_change (.endRebuild j i _ .unsettled _ hmem hk ‹_› (by decide)) ..

theorem readChartBody_effect (h : Held) (s : State) : (readChartBody h s).EffectOf s := by
  unfold readChartBody
  dsimp only
  split
  · exact Reply.effectOf_refuse ..
  split
  · exact Reply.effectOf_refuse ..
  · exact Reply.effectOf_same ..

theorem excludeEntry_effect {s : State} {i : Slot} (day : Nat) (want : Bool)
    (hi : (s.lane i).state ≠ .vacant) (hr : s.rebuildRunning i = false) :
    (excludeEntry s i day want).EffectOf s := by
  have hedit := TableChange.editLane i _ (LaneEdit.exclude day want hi hr)
  show Effect s (queueExclusionRebuild _ i).1
  unfold queueExclusionRebuild
  split
  · exact hedit.effect
  · rename_i hnone
    split
    · refine Relation.ReflTransGen.tail (Relation.ReflTransGen.single hedit)
        (.joinRebuild i ?_ hnone ‹_›)
      rw [State.lane_setLane_self]; exact hi
    · exact hedit.effect

theorem excludeDayBody_effect (h : Held) (s : State) : (excludeDayBody h s).EffectOf s := by
  unfold excludeDayBody
  dsimp only
  split
  · exact Reply.effectOf_refuse ..
  rename_i i hi
  split
  · exact Reply.effectOf_refuse ..
  split
  · exact Reply.effectOf_refuse ..
  split
  · exact Reply.effectOf_refuse ..
  split
  · exact Reply.effectOf_refuse ..
  split
  · exact Reply.effectOf_same ..
  · exact excludeEntry_effect _ _ (checkSlot_eq_ok hi) (by simpa using ‹¬ s.rebuildRunning _ = true›)

theorem listAlertsBody_effect (h : Held) (s : State) : (listAlertsBody h s).EffectOf s := by
  unfold listAlertsBody
  dsimp only
  split
  · exact Reply.effectOf_same ..
  · split
    · exact Reply.effectOf_refuse ..
    · exact Reply.effectOf_same ..

theorem ackAlertBody_effect (h : Held) (s : State) : (ackAlertBody h s).EffectOf s := by
  unfold ackAlertBody
  dsimp only
  split
  · exact Reply.effectOf_refuse ..
  · split
    · exact Reply.effectOf_same ..
    · exact Reply.effectOf_change (.dropAlerts _) ..

end Sys2Proof.Machine

namespace Sys2Proof.Machine

/-! ### What the unit's steps do to the tables -/

theorem Table.find_congr {α β : Type} {n : Nat} {p : α → Bool} {q : β → Bool} {t : Table α n}
    {u : Table β n} (h : ∀ i, p (t.get i) = q (u.get i)) : t.find p = u.find q :=
  Option.ext fun i => by simp only [Table.find_eq_some, h]

/-- The sheet of a running DAY job is found by states and days alone. -/
theorem evaluatingSheet_congr {s t : State} (d : Nat)
    (h : ∀ k, (t.sheet k).state = (s.sheet k).state ∧ (t.sheet k).day = (s.sheet k).day) :
    t.evaluatingSheet d = s.evaluatingSheet d :=
  Table.find_congr fun k => by
    obtain ⟨h1, h2⟩ := h k
    unfold State.sheet at h1 h2
    rw [h1, h2]

theorem sheet_setEntry (s : State) (k m : SheetNo) (i : Slot) (e : StripEntry) :
    (s.setEntry k i e).sheet m = if k = m then
      { s.sheet k with entries := (s.sheet k).entries.set i (some e) } else s.sheet m :=
  s.sheet_setSheet k m _

/-- A written entry leaves every sheet's state and day alone. -/
theorem sheet_setEntry_frame (s : State) (k m : SheetNo) (i : Slot) (e : StripEntry) :
    ((s.setEntry k i e).sheet m).state = (s.sheet m).state ∧
      ((s.setEntry k i e).sheet m).day = (s.sheet m).day := by
  rw [sheet_setEntry]
  split
  · rename_i h; subst h; exact ⟨rfl, rfl⟩
  · exact ⟨rfl, rfl⟩

theorem entry_setEntry (s : State) (k m : SheetNo) (i j : Slot) (e : StripEntry) :
    ((s.setEntry k i e).sheet m).entries.get j =
      if k = m ∧ i = j then some e else (s.sheet m).entries.get j := by
  rw [sheet_setEntry]
  by_cases hk : k = m
  · subst hk; simp [Table.get_set]
  · simp [hk]

theorem JobKind.day?_eq_some {k : JobKind} {d : Nat} : k.day? = some d ↔ k = .day d := by
  cases k <;> simp [JobKind.day?]

theorem JobKind.lane?_eq_some {k : JobKind} {i : Slot} : k.lane? = some i ↔ k = .rebuild i := by
  cases k <;> simp [JobKind.lane?]

theorem State.startable_eq_some {s : State} {j : Job} (h : s.startable = some j) :
    ∃ rest, s.queue = j :: rest ∧ j.state = .queued := by
  unfold State.startable at h
  split at h
  · cases h
  · split at h
    · cases h
    · split at h
      · cases h; exact ⟨_, ‹_›, ‹_›⟩
      · cases h

/-- The EVALUATING sheet that a step of a DAY job reads. -/
theorem evaluatingSheet_eq_some {s : State} {d : Nat} {k : SheetNo}
    (h : s.evaluatingSheet d = some k) :
    (s.sheet k).state = .evaluating ∧ (s.sheet k).day = some d := by
  simpa [State.sheet] using (Table.find_eq_some.mp h).1

/-- The only slot that DEVIATE passes in a step is its own. -/
theorem Stage.deviated_deviate_next {i m : Slot} (h1 : (Stage.deviate i).next.deviated m = true)
    (h2 : (Stage.deviate i).deviated m = false) : m = i := by
  have hm := m.isLt
  have hle : i.val ≤ m.val := by simpa [Stage.deviated] using h2
  by_cases hlt : i.val + 1 < 128
  · have hnext : (Stage.deviate i).next = .deviate ⟨i.val + 1, hlt⟩ := by
      simp [Stage.next, succFin, hlt]
    rw [hnext] at h1
    have hmi : m.val < i.val + 1 := by simpa [Stage.deviated, Fin.lt_def] using h1
    exact Fin.ext (by omega)
  · exact Fin.ext (by omega)

theorem Effect.advance {s u : State} {j : Job} {st : Stage} (h : Effect s u)
    (hs : s.stepping = some (j, st)) (hq : u.queue = s.queue)
    (hd : ∀ d, j.kind = .day d → ∀ i, st.next.deviated i = true → st.deviated i = false →
      ∀ k e, u.evaluatingSheet d = some k → (u.sheet k).entries.get i = some e →
        EntryDeviated u d i e) : Effect s (u.setStage st.next) := by
  obtain ⟨-, rest, hqs, hst⟩ := State.stepping_eq_some.mp hs
  exact h.tail (.advance j rest st (hq.trans hqs) hst hd)

/-- DEVIATE of one slot: nothing without an entry, else the entry's results. -/
theorem deviateSlot_cases {s u : State} {d : Nat} {k : SheetNo} {i : Slot}
    (h : deviateSlot s d k i = .ok u) :
    ((s.sheet k).entries.get i = none ∧ u = s) ∨
      ∃ e x lot r, (s.sheet k).entries.get i = some e ∧ s.laneSettings (s.lane i) = some x ∧
        s.findLot e.lot = some lot ∧ deviateEntry d (s.lane i) x lot e = some r ∧
        u = s.setEntry k i { e with result := some r } := by
  unfold deviateSlot at h
  split at h
  · cases h; exact .inl ⟨‹_›, rfl⟩
  · split at h
    · cases h
    · cases h
    · split at h
      · cases h
      · cases h; exact .inr ⟨_, _, _, _, ‹_›, ‹_›, ‹_›, ‹_›, rfl⟩

theorem deviateStep_effect {s t : State} (e : execDeviateStep s = .next t) : Effect s t := by
  unfold execDeviateStep at e
  split at e
  case h_2 | h_3 | h_4 | h_5 | h_6 => cases e; exact .refl
  rename_i j i hstep
  split at e
  · cases e; exact .refl
  rename_i d hd
  split at e
  · cases e
  rename_i k hk
  obtain ⟨u, hu, rfl⟩ := stepTo_next e
  rw [JobKind.day?_eq_some] at hd
  have own : ∀ d', j.kind = .day d' → d' = d := fun d' h' => by rw [hd] at h'; cases h'; rfl
  rcases deviateSlot_cases hu with ⟨hnone, rfl⟩ | ⟨en, x, lot, r, hen, hx, hlot, hr, rfl⟩
  · refine Effect.advance .refl hstep rfl fun d' hd' m h1 h2 k' e' hk' he' => ?_
    obtain rfl := own d' hd'
    obtain rfl := Stage.deviated_deviate_next h1 h2
    rw [hk] at hk'; cases hk'
    rw [hnone] at he'; cases he'
  · have hchange : TableChange s (s.setEntry k i { en with result := some r }) :=
      .deviate k i d en x lot r hen (evaluatingSheet_eq_some hk).1 hx hlot hr
    refine hchange.effect.advance hstep rfl fun d' hd' m h1 h2 k' e' hk' he' => ?_
    obtain rfl := own d' hd'
    obtain rfl := Stage.deviated_deviate_next h1 h2
    rw [evaluatingSheet_congr (s := s) d' fun m => sheet_setEntry_frame s k m ..] at hk'
    rw [hk] at hk'; cases hk'
    rw [entry_setEntry, if_pos ⟨rfl, rfl⟩] at he'
    cases he'
    exact ⟨x, lot, r, hx, hlot, hr, rfl⟩

/-- CENTER of one cohort: nothing for a FREE cohort, no center, or a center and perhaps a raise. -/
theorem centerCohort_cases {s u : State} {d : Nat} {k : SheetNo} {c : CohortId}
    (h : centerCohort s d k c = .ok u) :
    u = s ∨ ∃ x, s.cohort c = some x ∧
      (u = s.setCohort c (some (x.noCenter d)) ∨
        ∃ set cs, (s.family x.family).active = some set ∧
          centersOf set.plan.length (contributors c x (s.sheet k)) = some cs ∧
          u = s.storeCenter c x set.plan d (contributors c x (s.sheet k)).length cs) := by
  unfold centerCohort at h
  split at h
  · cases h; exact .inl rfl
  · rename_i x hx
    split at h
    · cases h
    · dsimp only at h
      split at h
      · split at h
        · cases h
        · cases h; exact .inr ⟨x, hx, .inr ⟨_, _, ‹_›, ‹_›, rfl⟩⟩
      · cases h; exact .inr ⟨x, hx, .inl rfl⟩

/-- A raise leaves the queue alone. -/
theorem State.raiseAll_queue (s : State) (rs : List Raise) : (s.raiseAll rs).queue = s.queue := by
  obtain ⟨_, _, _, _, h⟩ := s.raiseAll_frame rs
  rw [h]

theorem Effect.raiseAll {s u : State} (h : Effect s u) (hreset : u.resetAsserted = false)
    {rs : List Raise} (hr : ∀ r ∈ rs, r.kind = .common ↔ ∃ c, r.subject = .cohort c) : Effect s (u.raiseAll rs) := by
  induction rs generalizing u with
  | nil => exact h
  | cons r rs ih =>
    have hnext : (u.raise r).resetAsserted = false := by
      obtain ⟨_, _, _, _, he⟩ := u.raise_frame r
      rw [he]; exact hreset
    exact ih (h.tail (.raise r hreset (hr r (List.mem_cons_self ..)))) hnext
      fun r' hr' => hr r' (List.mem_cons_of_mem _ hr')

theorem storeCenter_eq (s : State) (c : CohortId) (x : Cohort) (plan : List PlanEntry)
    (day count : Nat) (cs : List Int) : ∃ rs : List Raise,
      (∀ r ∈ rs, r.kind = .common ↔ ∃ c, r.subject = .cohort c) ∧
      s.storeCenter c x plan day count cs = (s.setCohort c
        (some { x with lastDay := some day, centers := some cs, count := count })).raiseAll rs := by
  unfold State.storeCenter
  dsimp only
  split
  · exact ⟨[], fun r hr => (by cases hr), rfl⟩
  · refine ⟨[_], fun r hr => ?_, rfl⟩
    rw [List.mem_singleton.mp hr]
    exact ⟨fun _ => ⟨c, rfl⟩, fun _ => rfl⟩

theorem centerStep_effect {s t : State} (e : execCenterStep s = .next t) : Effect s t := by
  unfold execCenterStep at e
  split at e
  case h_2 | h_3 | h_4 | h_5 | h_6 => cases e; exact .refl
  rename_i j c hstep
  split at e
  · cases e; exact .refl
  rename_i d hd
  split at e
  · cases e
  obtain ⟨u, hu, rfl⟩ := stepTo_next e
  rcases centerCohort_cases hu with rfl | ⟨x, hx, rfl | ⟨set, cs, hset, hcs, rfl⟩⟩
  · exact Effect.advance .refl hstep rfl fun _ _ _ _ h => by cases h
  · exact (TableChange.noCenter c x d hx).effect.advance hstep rfl fun _ _ _ _ h => by cases h
  · have hreset := (State.stepping_eq_some.mp hstep).1
    obtain ⟨rs, hrs, hstore⟩ := storeCenter_eq s c x set.plan d _ cs
    rw [hstore]
    exact ((TableChange.center c x set d _ _ cs hx hset hcs).effect.raiseAll hreset hrs).advance hstep
      (State.raiseAll_queue ..) fun _ _ _ _ h => by cases h

/-- The alerts of a reading are of its lane. -/
theorem readingRaises_subject {day : Nat} {i : Slot} {refless : Bool}
    {rs : List (ParamResult × ParamState)} : ∀ r ∈ readingRaises day i refless rs,
      r.kind = .common ↔ ∃ c, r.subject = .cohort c := by
  intro r hr
  unfold readingRaises at hr
  simp only [List.mem_append] at hr
  rcases hr with (hr | hr) | hr <;> split at hr <;>
    simp only [List.not_mem_nil, List.mem_singleton] at hr <;> subst hr <;> simp

/-- The centers removed from a lane are those of cohort records: the lane's own record plays no part. -/
theorem applyReading_setLane (s : State) (day : Nat) (i : Slot) (l : Lane) (x : Settings)
    (e : StripEntry) (switched : Bool) :
    applyReading (s.setLane i l) day i l x e switched = applyReading s day i l x e switched := by
  unfold applyReading
  simp only [State.setLane_setLane]
  rfl

theorem applyReading_effect {s u : State} {day : Nat} {i : Slot} {k : SheetNo} {x : Settings}
    {e : StripEntry} {switched : Bool} (hd : s.DayAt day (.apply i))
    (hk : s.evaluatingSheet day = some k) (he : (s.sheet k).entries.get i = some e)
    (hx : s.laneSettings (s.lane i) = some x) (hv : (s.lane i).state ≠ .vacant)
    (hs : (s.lane i).state ≠ .suspended) (hday : (s.lane i).lastApplied.any (day ≤ ·) = false)
    (hlot : (s.lane i).effective = some e.lot)
    (h : applyReading s day i (s.lane i) x e switched = .ok u) : Effect s u ∧ u.queue = s.queue := by
  unfold applyReading at h
  split at h
  · cases h
  rename_i r hr
  split at h
  · cases h
  dsimp only at h
  cases h
  have hedit := TableChange.editLane i _ (LaneEdit.reading day k e r x switched
    (s.lacksCenter day r) (s.evaluatedSaturated day i r) hd hk he hr hx hv hs hday hlot)
  exact ⟨hedit.effect.raiseAll hd.1 readingRaises_subject, State.raiseAll_queue ..⟩

theorem applyMissing_effect {s u : State} {day : Nat} {i : Slot} {x : Settings} {withdrawn : Bool}
    (hreset : s.resetAsserted = false) (hv : (s.lane i).state ≠ .vacant)
    (hday : (s.lane i).lastApplied.any (day ≤ ·) = false)
    (h : applyMissing s day i (s.lane i) x withdrawn = .ok u) : Effect s u ∧ u.queue = s.queue := by
  unfold applyMissing at h
  split at h
  · rename_i hst
    split at h
    · cases h
    · rename_i lot hlot
      cases h
      have hedit := TableChange.editLane i _ (LaneEdit.missing day lot x withdrawn hst hlot hday)
      refine ⟨hedit.effect.raiseAll hreset fun r hr => ?_, State.raiseAll_queue ..⟩
      obtain ⟨kind, hkind, rfl⟩ := List.mem_map.mp hr
      have : kind ≠ .common := by
        unfold Lane.countQuiet at hkind
        rintro rfl
        split at hkind
        · cases hkind
        · split at hkind
          · split at hkind <;> simp at hkind
          · split at hkind
            · cases hkind
            · split at hkind <;> simp at hkind
      simp [this]
  · cases h
    exact ⟨(TableChange.editLane i _ (.passed day hv hday)).effect, rfl⟩

theorem applySlot_effect {s u : State} {day : Nat} {k : SheetNo} {i : Slot}
    (hd : s.DayAt day (.apply i)) (hk : s.evaluatingSheet day = some k)
    (h : applySlot s day k i = .ok u) : Effect s u ∧ u.queue = s.queue := by
  unfold applySlot at h
  dsimp only at h
  split at h
  · cases h; exact ⟨.refl, rfl⟩
  rename_i htaken
  split at h
  · cases h; exact ⟨.refl, rfl⟩
  rename_i hday
  split at h
  · cases h; exact ⟨.refl, rfl⟩
  rename_i hs
  split at h
  · cases h
  rename_i x hx
  have hv : (s.lane i).state ≠ .vacant := fun hv => htaken (by simp [takenByApply, hv])
  replace hday : (s.lane i).lastApplied.any (day ≤ ·) = false := by simpa using hday
  unfold applyLots at h
  split at h
  · exact applyMissing_effect hd.1 hv hday h
  rename_i en hen
  split at h
  · exact applyReading_effect hd hk hen hx hv hs hday ‹_› h
  split at h
  · rename_i hpend
    have hswitch := TableChange.editLane i _ (LaneEdit.switchLot (s := s) day x hv hs (by simp [hpend]))
    rw [← applyReading_setLane] at h
    have hstate : ((s.lane i).switchLot day x).state = .settling ∨
        ((s.lane i).switchLot day x).state = .tracking := by
      unfold Lane.switchLot
      dsimp only
      split <;> simp
    obtain ⟨h1, h2⟩ := applyReading_effect (s := s.setLane i ((s.lane i).switchLot day x)) (k := k)
      (i := i) (x := x) (e := en) (switched := true) (day := day) (u := u) hd hk hen
      (by rw [State.lane_setLane_self]; exact hx)
      (by rw [State.lane_setLane_self]; rcases hstate with h | h <;> simp [h])
      (by rw [State.lane_setLane_self]; rcases hstate with h | h <;> simp [h])
      (by rw [State.lane_setLane_self]; exact hday)
      (by rw [State.lane_setLane_self]; exact hpend)
      (by rw [State.lane_setLane_self]; exact h)
    exact ⟨h1.head hswitch, h2⟩
  · exact applyMissing_effect hd.1 hv hday h

theorem applyStep_effect {s t : State} (e : execApplyStep s = .next t) : Effect s t := by
  unfold execApplyStep at e
  split at e
  case h_2 | h_3 | h_4 | h_5 | h_6 => cases e; exact .refl
  rename_i j i hstep
  split at e
  · cases e; exact .refl
  rename_i d hd
  split at e
  · cases e
  rename_i k hk
  obtain ⟨u, hu, rfl⟩ := stepTo_next e
  obtain ⟨hr, rest, hq, hst⟩ := State.stepping_eq_some.mp hstep
  obtain ⟨h1, h2⟩ := applySlot_effect ⟨hr, j, rest, hq, JobKind.day?_eq_some.mp hd, hst⟩ hk hu
  exact h1.advance hstep h2 fun _ _ _ _ h => by cases h

theorem dayJobStart_effect {s t : State} (e : execDayJobStart s = .next t) : Effect s t := by
  unfold execDayJobStart at e
  split at e
  · cases e; exact .refl
  · rename_i j hj
    obtain ⟨rest, hq, hs⟩ := State.startable_eq_some hj
    split at e
    · cases e; exact (TableChange.startDay j rest _ hq hs ‹_›).effect
    · cases e; exact .refl

theorem dayJobEnd_effect {s t : State} (e : execDayJobEnd s = .next t) : Effect s t := by
  unfold execDayJobEnd at e
  split at e
  case h_2 | h_3 | h_4 | h_5 | h_6 => cases e; exact .refl
  rename_i j hstep
  obtain ⟨-, rest, hq, hs⟩ := State.stepping_eq_some.mp hstep
  split at e
  · cases e; exact (TableChange.endDay j rest _ hq hs ‹_›).effect
  · cases e; exact .refl

theorem rebuildStart_effect {s t : State} (e : execRebuildStart s = .next t) : Effect s t := by
  unfold execRebuildStart at e
  split at e
  · cases e; exact .refl
  · rename_i j hj
    obtain ⟨rest, hq, hs⟩ := State.startable_eq_some hj
    split at e
    · cases e; exact .refl
    · cases e; exact (TableChange.startRebuild j rest _ hq hs ‹_›).effect

theorem replayStep_effect {s t : State} (e : execReplayStep s = .next t) : Effect s t := by
  unfold execReplayStep at e
  split at e
  case h_2 | h_3 | h_4 | h_5 | h_6 => cases e; exact .refl
  rename_i j n hstep
  obtain ⟨-, rest, hq, -⟩ := State.stepping_eq_some.mp hstep
  split at e
  · cases e; exact .refl
  rename_i i hi
  split at e
  · cases e; exact .refl
  rename_i x hx
  obtain ⟨u, hu, rfl⟩ := stepTo_next e
  unfold replayEntry at hu
  split at hu
  · cases hu
  · rename_i set hset
    cases hu
    have hedit := TableChange.editLane i _ (LaneEdit.replay j set.shift x (by simp [hq])
      (JobKind.lane?_eq_some.mp hi) (List.mem_of_getElem? hx))
    exact hedit.effect.advance hstep rfl fun _ _ _ h => by cases h

theorem rebuildEnd_effect {s t : State} (e : execRebuildEnd s = .next t) : Effect s t := by
  unfold execRebuildEnd at e
  split at e
  case h_2 | h_3 | h_4 | h_5 | h_6 => cases e; exact .refl
  rename_i j n hstep
  obtain ⟨-, rest, hq, hs⟩ := State.stepping_eq_some.mp hstep
  split at e
  · cases e; exact .refl
  rename_i i hi
  split at e
  · cases e; exact .refl
  · cases e
    exact (TableChange.endRebuild j i _ .sound _ (by simp [hq]) (JobKind.lane?_eq_some.mp hi) hs
      (by decide)).effect

end Sys2Proof.Machine

namespace Sys2Proof.Machine

/-! ### What the composite operations leave alone -/

theorem setCohortField_frame (x : Option CohortId) (is : List Slot) (s : State) :
    ∃ lanes, State.setCohortField x is s = { s with lanes := lanes } := by
  induction is generalizing s with
  | nil => exact ⟨s.lanes, rfl⟩
  | cons i is ih =>
    obtain ⟨lanes, h⟩ := ih (s.setLane i { s.lane i with cohort := x })
    exact ⟨lanes, h⟩

theorem State.formCohort_frame (s : State) (r : CohortRequest) : ∃ lanes, s.formCohort r =
    { s with
      lanes := lanes
      cohorts := s.cohorts.set r.id
        (some ⟨r.family, r.mode, sortAscending r.members, none, none, 0⟩) } := by
  unfold State.formCohort
  obtain ⟨l1, h1⟩ := setCohortField_frame none (leavers s r) s
  rw [h1]
  obtain ⟨l2, h2⟩ := setCohortField_frame (some r.id) r.members { s with lanes := l1 }
  rw [h2]
  exact ⟨l2, rfl⟩

theorem State.dissolve_frame (s : State) (c : CohortId) (ms : List Slot) : ∃ lanes, s.dissolve c ms =
    { s with
      lanes := lanes
      cohorts := s.cohorts.set c none
      alerts := s.alerts.filter fun a => a.subject != .cohort c
      overflow := s.overflow && !(s.alerts.filter fun a => a.subject != .cohort c).isEmpty } := by
  unfold State.dissolve
  obtain ⟨lanes, h⟩ := setCohortField_frame none ms s
  rw [h]
  exact ⟨lanes, rfl⟩

theorem State.cancelRebuildOf_frame (s : State) (i : Slot) : ∃ queue finished,
    s.cancelRebuildOf i = { s with queue := queue, finished := finished } := by
  unfold State.cancelRebuildOf
  split
  · exact ⟨s.queue, s.finished, rfl⟩
  · exact ⟨_, _, rfl⟩

/-- The tables after LANE RETIRE (R26). -/
theorem State.retire_eq (s : State) (i : Slot) : s.retire i =
    { s with
      directory := s.directory.filter fun e => e.2 != i
      lanes := s.lanes.set i .vacant
      sheets := s.sheets.map (Sheet.without i)
      cohorts := (s.leaveCohort i).cohorts
      queue := (s.cancelRebuildOf i).queue
      finished := (s.cancelRebuildOf i).finished
      alerts := s.alerts.filter fun a => a.subject != .lane i
      overflow := s.overflow && !(s.alerts.filter fun a => a.subject != .lane i).isEmpty } := by
  have hleave : (s.forgetSlot i).leaveCohort i =
      { s.forgetSlot i with cohorts := (s.leaveCohort i).cohorts } := by
    unfold State.leaveCohort
    show (match (s.lane i).cohort with
      | none => _
      | some c => _) = _
    cases (s.lane i).cohort <;> rfl
  have hcancel : ∀ u : State, u.queue = s.queue → u.finished = s.finished → u.cancelRebuildOf i =
      { u with queue := (s.cancelRebuildOf i).queue, finished := (s.cancelRebuildOf i).finished } := by
    intro u hq hf
    have hfind : u.findRebuild i = s.findRebuild i := by unfold State.findRebuild; rw [hq]
    unfold State.cancelRebuildOf
    rw [hfind]
    cases s.findRebuild i with
    | none => rw [← hq, ← hf]
    | some j => unfold State.finishJob; rw [hq, hf]
  unfold State.retire
  dsimp only
  rw [hleave, hcancel]
  · rfl
  · rfl
  · rfl

theorem State.startDayJob_frame (s : State) (d : Nat) : ∃ families lanes cohorts queue,
    s.startDayJob d = { s with
      families := families, lanes := lanes, cohorts := cohorts, queue := queue
      sheets := s.sheets.map (Sheet.startDay d) } := by
  obtain ⟨families, lanes, cohorts, h⟩ := s.promoteAll_frame
  unfold State.startDayJob
  obtain ⟨q, hq, -⟩ := State.setStage_frame
    ({ s.promoteAll with sheets := s.promoteAll.sheets.map (Sheet.startDay d) } : State) (.deviate 0)
  dsimp only
  rw [hq, h]
  exact ⟨_, _, _, _, rfl⟩

theorem State.stopRunningRebuild_frame (s : State) :
    ∃ lanes, s.stopRunningRebuild = { s with lanes := lanes } := by
  unfold State.stopRunningRebuild
  split
  · split
    · exact ⟨_, rfl⟩
    · exact ⟨s.lanes, rfl⟩
  · exact ⟨s.lanes, rfl⟩

/-- DAY jobs that join one after another. -/
theorem foldl_joinJob_frame (ds : List Nat) (s : State) : ∃ queue nextJobId,
    ds.foldl (fun t d => t.joinJob (.day d)) s =
      { s with queue := queue, nextJobId := nextJobId } := by
  induction ds generalizing s with
  | nil => exact ⟨s.queue, s.nextJobId, rfl⟩
  | cons d ds ih =>
    obtain ⟨q, n, h⟩ := ih (s.joinJob (.day d))
    exact ⟨q, n, h⟩

theorem State.resetUnit_frame (s : State) : ∃ queue nextJobId, s.resetUnit = { s with
    lanes := s.stopRunningRebuild.lanes
    sheets := s.sheets.map Sheet.warmReset
    queue := queue
    nextJobId := nextJobId
    finished := [] } := by
  unfold State.resetUnit
  obtain ⟨lanes, h⟩ := s.stopRunningRebuild_frame
  dsimp only
  obtain ⟨q, n, hq⟩ := foldl_joinJob_frame _ _
  rw [hq, h]
  exact ⟨_, _, rfl⟩

/-! ### One field of the state under each composite operation -/

section
variable (s : State)

@[simp] theorem State.setStage_resetAsserted (st : Stage) :
    (s.setStage st).resetAsserted = s.resetAsserted := by
  obtain ⟨_, h, -⟩ := s.setStage_frame st; rw [h]
@[simp] theorem State.setStage_ports (st : Stage) : (s.setStage st).ports = s.ports := by
  obtain ⟨_, h, -⟩ := s.setStage_frame st; rw [h]
@[simp] theorem State.setStage_arbiter (st : Stage) : (s.setStage st).arbiter = s.arbiter := by
  obtain ⟨_, h, -⟩ := s.setStage_frame st; rw [h]
@[simp] theorem State.setStage_executor (st : Stage) : (s.setStage st).executor = s.executor := by
  obtain ⟨_, h, -⟩ := s.setStage_frame st; rw [h]
@[simp] theorem State.setStage_config (st : Stage) : (s.setStage st).config = s.config := by
  obtain ⟨_, h, -⟩ := s.setStage_frame st; rw [h]
@[simp] theorem State.setStage_families (st : Stage) : (s.setStage st).families = s.families := by
  obtain ⟨_, h, -⟩ := s.setStage_frame st; rw [h]
@[simp] theorem State.setStage_lots (st : Stage) : (s.setStage st).lots = s.lots := by
  obtain ⟨_, h, -⟩ := s.setStage_frame st; rw [h]
@[simp] theorem State.setStage_directory (st : Stage) :
    (s.setStage st).directory = s.directory := by
  obtain ⟨_, h, -⟩ := s.setStage_frame st; rw [h]
@[simp] theorem State.setStage_lanes (st : Stage) : (s.setStage st).lanes = s.lanes := by
  obtain ⟨_, h, -⟩ := s.setStage_frame st; rw [h]
@[simp] theorem State.setStage_openDay (st : Stage) : (s.setStage st).openDay = s.openDay := by
  obtain ⟨_, h, -⟩ := s.setStage_frame st; rw [h]
@[simp] theorem State.setStage_sheets (st : Stage) : (s.setStage st).sheets = s.sheets := by
  obtain ⟨_, h, -⟩ := s.setStage_frame st; rw [h]
@[simp] theorem State.setStage_cohorts (st : Stage) : (s.setStage st).cohorts = s.cohorts := by
  obtain ⟨_, h, -⟩ := s.setStage_frame st; rw [h]
@[simp] theorem State.setStage_nextJobId (st : Stage) :
    (s.setStage st).nextJobId = s.nextJobId := by
  obtain ⟨_, h, -⟩ := s.setStage_frame st; rw [h]
@[simp] theorem State.setStage_finished (st : Stage) : (s.setStage st).finished = s.finished := by
  obtain ⟨_, h, -⟩ := s.setStage_frame st; rw [h]
@[simp] theorem State.setStage_alerts (st : Stage) : (s.setStage st).alerts = s.alerts := by
  obtain ⟨_, h, -⟩ := s.setStage_frame st; rw [h]
@[simp] theorem State.setStage_nextSerial (st : Stage) :
    (s.setStage st).nextSerial = s.nextSerial := by
  obtain ⟨_, h, -⟩ := s.setStage_frame st; rw [h]
@[simp] theorem State.setStage_overflow (st : Stage) : (s.setStage st).overflow = s.overflow := by
  obtain ⟨_, h, -⟩ := s.setStage_frame st; rw [h]
@[simp] theorem State.raise_resetAsserted (r : Raise) :
    (s.raise r).resetAsserted = s.resetAsserted := by
  obtain ⟨_, _, _, _, h⟩ := s.raise_frame r; rw [h]
@[simp] theorem State.raise_executor (r : Raise) : (s.raise r).executor = s.executor := by
  obtain ⟨_, _, _, _, h⟩ := s.raise_frame r; rw [h]
@[simp] theorem State.raise_config (r : Raise) : (s.raise r).config = s.config := by
  obtain ⟨_, _, _, _, h⟩ := s.raise_frame r; rw [h]
@[simp] theorem State.raise_families (r : Raise) : (s.raise r).families = s.families := by
  obtain ⟨_, _, _, _, h⟩ := s.raise_frame r; rw [h]
@[simp] theorem State.raise_lots (r : Raise) : (s.raise r).lots = s.lots := by
  obtain ⟨_, _, _, _, h⟩ := s.raise_frame r; rw [h]
@[simp] theorem State.raise_directory (r : Raise) : (s.raise r).directory = s.directory := by
  obtain ⟨_, _, _, _, h⟩ := s.raise_frame r; rw [h]
@[simp] theorem State.raise_lanes (r : Raise) : (s.raise r).lanes = s.lanes := by
  obtain ⟨_, _, _, _, h⟩ := s.raise_frame r; rw [h]
@[simp] theorem State.raise_openDay (r : Raise) : (s.raise r).openDay = s.openDay := by
  obtain ⟨_, _, _, _, h⟩ := s.raise_frame r; rw [h]
@[simp] theorem State.raise_sheets (r : Raise) : (s.raise r).sheets = s.sheets := by
  obtain ⟨_, _, _, _, h⟩ := s.raise_frame r; rw [h]
@[simp] theorem State.raise_cohorts (r : Raise) : (s.raise r).cohorts = s.cohorts := by
  obtain ⟨_, _, _, _, h⟩ := s.raise_frame r; rw [h]
@[simp] theorem State.raise_queue (r : Raise) : (s.raise r).queue = s.queue := by
  obtain ⟨_, _, _, _, h⟩ := s.raise_frame r; rw [h]
@[simp] theorem State.raise_nextJobId (r : Raise) : (s.raise r).nextJobId = s.nextJobId := by
  obtain ⟨_, _, _, _, h⟩ := s.raise_frame r; rw [h]
@[simp] theorem State.raise_finished (r : Raise) : (s.raise r).finished = s.finished := by
  obtain ⟨_, _, _, _, h⟩ := s.raise_frame r; rw [h]
@[simp] theorem State.formCohort_resetAsserted (r : CohortRequest) :
    (s.formCohort r).resetAsserted = s.resetAsserted := by
  obtain ⟨_, h⟩ := s.formCohort_frame r; rw [h]
@[simp] theorem State.formCohort_ports (r : CohortRequest) : (s.formCohort r).ports = s.ports := by
  obtain ⟨_, h⟩ := s.formCohort_frame r; rw [h]
@[simp] theorem State.formCohort_arbiter (r : CohortRequest) :
    (s.formCohort r).arbiter = s.arbiter := by
  obtain ⟨_, h⟩ := s.formCohort_frame r; rw [h]
@[simp] theorem State.formCohort_executor (r : CohortRequest) :
    (s.formCohort r).executor = s.executor := by
  obtain ⟨_, h⟩ := s.formCohort_frame r; rw [h]
@[simp] theorem State.formCohort_config (r : CohortRequest) :
    (s.formCohort r).config = s.config := by
  obtain ⟨_, h⟩ := s.formCohort_frame r; rw [h]
@[simp] theorem State.formCohort_families (r : CohortRequest) :
    (s.formCohort r).families = s.families := by
  obtain ⟨_, h⟩ := s.formCohort_frame r; rw [h]
@[simp] theorem State.formCohort_lots (r : CohortRequest) : (s.formCohort r).lots = s.lots := by
  obtain ⟨_, h⟩ := s.formCohort_frame r; rw [h]
@[simp] theorem State.formCohort_directory (r : CohortRequest) :
    (s.formCohort r).directory = s.directory := by
  obtain ⟨_, h⟩ := s.formCohort_frame r; rw [h]
@[simp] theorem State.formCohort_openDay (r : CohortRequest) :
    (s.formCohort r).openDay = s.openDay := by
  obtain ⟨_, h⟩ := s.formCohort_frame r; rw [h]
@[simp] theorem State.formCohort_sheets (r : CohortRequest) :
    (s.formCohort r).sheets = s.sheets := by
  obtain ⟨_, h⟩ := s.formCohort_frame r; rw [h]
@[simp] theorem State.formCohort_queue (r : CohortRequest) : (s.formCohort r).queue = s.queue := by
  obtain ⟨_, h⟩ := s.formCohort_frame r; rw [h]
@[simp] theorem State.formCohort_nextJobId (r : CohortRequest) :
    (s.formCohort r).nextJobId = s.nextJobId := by
  obtain ⟨_, h⟩ := s.formCohort_frame r; rw [h]
@[simp] theorem State.formCohort_finished (r : CohortRequest) :
    (s.formCohort r).finished = s.finished := by
  obtain ⟨_, h⟩ := s.formCohort_frame r; rw [h]
@[simp] theorem State.formCohort_alerts (r : CohortRequest) :
    (s.formCohort r).alerts = s.alerts := by
  obtain ⟨_, h⟩ := s.formCohort_frame r; rw [h]
@[simp] theorem State.formCohort_nextSerial (r : CohortRequest) :
    (s.formCohort r).nextSerial = s.nextSerial := by
  obtain ⟨_, h⟩ := s.formCohort_frame r; rw [h]
@[simp] theorem State.formCohort_overflow (r : CohortRequest) :
    (s.formCohort r).overflow = s.overflow := by
  obtain ⟨_, h⟩ := s.formCohort_frame r; rw [h]
@[simp] theorem State.dissolve_resetAsserted (c : CohortId) (ms : List Slot) :
    (s.dissolve c ms).resetAsserted = s.resetAsserted := by
  obtain ⟨_, h⟩ := s.dissolve_frame c ms; rw [h]
@[simp] theorem State.dissolve_ports (c : CohortId) (ms : List Slot) :
    (s.dissolve c ms).ports = s.ports := by
  obtain ⟨_, h⟩ := s.dissolve_frame c ms; rw [h]
@[simp] theorem State.dissolve_arbiter (c : CohortId) (ms : List Slot) :
    (s.dissolve c ms).arbiter = s.arbiter := by
  obtain ⟨_, h⟩ := s.dissolve_frame c ms; rw [h]
@[simp] theorem State.dissolve_executor (c : CohortId) (ms : List Slot) :
    (s.dissolve c ms).executor = s.executor := by
  obtain ⟨_, h⟩ := s.dissolve_frame c ms; rw [h]
@[simp] theorem State.dissolve_config (c : CohortId) (ms : List Slot) :
    (s.dissolve c ms).config = s.config := by
  obtain ⟨_, h⟩ := s.dissolve_frame c ms; rw [h]
@[simp] theorem State.dissolve_families (c : CohortId) (ms : List Slot) :
    (s.dissolve c ms).families = s.families := by
  obtain ⟨_, h⟩ := s.dissolve_frame c ms; rw [h]
@[simp] theorem State.dissolve_lots (c : CohortId) (ms : List Slot) :
    (s.dissolve c ms).lots = s.lots := by
  obtain ⟨_, h⟩ := s.dissolve_frame c ms; rw [h]
@[simp] theorem State.dissolve_directory (c : CohortId) (ms : List Slot) :
    (s.dissolve c ms).directory = s.directory := by
  obtain ⟨_, h⟩ := s.dissolve_frame c ms; rw [h]
@[simp] theorem State.dissolve_openDay (c : CohortId) (ms : List Slot) :
    (s.dissolve c ms).openDay = s.openDay := by
  obtain ⟨_, h⟩ := s.dissolve_frame c ms; rw [h]
@[simp] theorem State.dissolve_sheets (c : CohortId) (ms : List Slot) :
    (s.dissolve c ms).sheets = s.sheets := by
  obtain ⟨_, h⟩ := s.dissolve_frame c ms; rw [h]
@[simp] theorem State.dissolve_queue (c : CohortId) (ms : List Slot) :
    (s.dissolve c ms).queue = s.queue := by
  obtain ⟨_, h⟩ := s.dissolve_frame c ms; rw [h]
@[simp] theorem State.dissolve_nextJobId (c : CohortId) (ms : List Slot) :
    (s.dissolve c ms).nextJobId = s.nextJobId := by
  obtain ⟨_, h⟩ := s.dissolve_frame c ms; rw [h]
@[simp] theorem State.dissolve_finished (c : CohortId) (ms : List Slot) :
    (s.dissolve c ms).finished = s.finished := by
  obtain ⟨_, h⟩ := s.dissolve_frame c ms; rw [h]
@[simp] theorem State.retire_resetAsserted (i : Slot) :
    (s.retire i).resetAsserted = s.resetAsserted := by
  rw [State.retire_eq]
@[simp] theorem State.retire_ports (i : Slot) : (s.retire i).ports = s.ports := by
  rw [State.retire_eq]
@[simp] theorem State.retire_arbiter (i : Slot) : (s.retire i).arbiter = s.arbiter := by
  rw [State.retire_eq]
@[simp] theorem State.retire_executor (i : Slot) : (s.retire i).executor = s.executor := by
  rw [State.retire_eq]
@[simp] theorem State.retire_config (i : Slot) : (s.retire i).config = s.config := by
  rw [State.retire_eq]
@[simp] theorem State.retire_families (i : Slot) : (s.retire i).families = s.families := by
  rw [State.retire_eq]
@[simp] theorem State.retire_lots (i : Slot) : (s.retire i).lots = s.lots := by
  rw [State.retire_eq]
@[simp] theorem State.retire_openDay (i : Slot) : (s.retire i).openDay = s.openDay := by
  rw [State.retire_eq]
@[simp] theorem State.startDayJob_resetAsserted (d : Nat) :
    (s.startDayJob d).resetAsserted = s.resetAsserted := by
  obtain ⟨_, _, _, _, h⟩ := s.startDayJob_frame d; rw [h]
@[simp] theorem State.startDayJob_ports (d : Nat) : (s.startDayJob d).ports = s.ports := by
  obtain ⟨_, _, _, _, h⟩ := s.startDayJob_frame d; rw [h]
@[simp] theorem State.startDayJob_arbiter (d : Nat) : (s.startDayJob d).arbiter = s.arbiter := by
  obtain ⟨_, _, _, _, h⟩ := s.startDayJob_frame d; rw [h]
@[simp] theorem State.startDayJob_executor (d : Nat) : (s.startDayJob d).executor = s.executor := by
  obtain ⟨_, _, _, _, h⟩ := s.startDayJob_frame d; rw [h]
@[simp] theorem State.startDayJob_config (d : Nat) : (s.startDayJob d).config = s.config := by
  obtain ⟨_, _, _, _, h⟩ := s.startDayJob_frame d; rw [h]
@[simp] theorem State.startDayJob_lots (d : Nat) : (s.startDayJob d).lots = s.lots := by
  obtain ⟨_, _, _, _, h⟩ := s.startDayJob_frame d; rw [h]
@[simp] theorem State.startDayJob_directory (d : Nat) :
    (s.startDayJob d).directory = s.directory := by
  obtain ⟨_, _, _, _, h⟩ := s.startDayJob_frame d; rw [h]
@[simp] theorem State.startDayJob_openDay (d : Nat) : (s.startDayJob d).openDay = s.openDay := by
  obtain ⟨_, _, _, _, h⟩ := s.startDayJob_frame d; rw [h]
@[simp] theorem State.startDayJob_nextJobId (d : Nat) :
    (s.startDayJob d).nextJobId = s.nextJobId := by
  obtain ⟨_, _, _, _, h⟩ := s.startDayJob_frame d; rw [h]
@[simp] theorem State.startDayJob_finished (d : Nat) : (s.startDayJob d).finished = s.finished := by
  obtain ⟨_, _, _, _, h⟩ := s.startDayJob_frame d; rw [h]
@[simp] theorem State.startDayJob_alerts (d : Nat) : (s.startDayJob d).alerts = s.alerts := by
  obtain ⟨_, _, _, _, h⟩ := s.startDayJob_frame d; rw [h]
@[simp] theorem State.startDayJob_nextSerial (d : Nat) :
    (s.startDayJob d).nextSerial = s.nextSerial := by
  obtain ⟨_, _, _, _, h⟩ := s.startDayJob_frame d; rw [h]
@[simp] theorem State.startDayJob_overflow (d : Nat) : (s.startDayJob d).overflow = s.overflow := by
  obtain ⟨_, _, _, _, h⟩ := s.startDayJob_frame d; rw [h]
@[simp] theorem State.resetUnit_resetAsserted : (s.resetUnit).resetAsserted = s.resetAsserted := by
  obtain ⟨_, _, h⟩ := s.resetUnit_frame; rw [h]
@[simp] theorem State.resetUnit_ports : (s.resetUnit).ports = s.ports := by
  obtain ⟨_, _, h⟩ := s.resetUnit_frame; rw [h]
@[simp] theorem State.resetUnit_arbiter : (s.resetUnit).arbiter = s.arbiter := by
  obtain ⟨_, _, h⟩ := s.resetUnit_frame; rw [h]
@[simp] theorem State.resetUnit_executor : (s.resetUnit).executor = s.executor := by
  obtain ⟨_, _, h⟩ := s.resetUnit_frame; rw [h]
@[simp] theorem State.resetUnit_config : (s.resetUnit).config = s.config := by
  obtain ⟨_, _, h⟩ := s.resetUnit_frame; rw [h]
@[simp] theorem State.resetUnit_families : (s.resetUnit).families = s.families := by
  obtain ⟨_, _, h⟩ := s.resetUnit_frame; rw [h]
@[simp] theorem State.resetUnit_lots : (s.resetUnit).lots = s.lots := by
  obtain ⟨_, _, h⟩ := s.resetUnit_frame; rw [h]
@[simp] theorem State.resetUnit_directory : (s.resetUnit).directory = s.directory := by
  obtain ⟨_, _, h⟩ := s.resetUnit_frame; rw [h]
@[simp] theorem State.resetUnit_openDay : (s.resetUnit).openDay = s.openDay := by
  obtain ⟨_, _, h⟩ := s.resetUnit_frame; rw [h]
@[simp] theorem State.resetUnit_cohorts : (s.resetUnit).cohorts = s.cohorts := by
  obtain ⟨_, _, h⟩ := s.resetUnit_frame; rw [h]
@[simp] theorem State.resetUnit_alerts : (s.resetUnit).alerts = s.alerts := by
  obtain ⟨_, _, h⟩ := s.resetUnit_frame; rw [h]
@[simp] theorem State.resetUnit_nextSerial : (s.resetUnit).nextSerial = s.nextSerial := by
  obtain ⟨_, _, h⟩ := s.resetUnit_frame; rw [h]
@[simp] theorem State.resetUnit_overflow : (s.resetUnit).overflow = s.overflow := by
  obtain ⟨_, _, h⟩ := s.resetUnit_frame; rw [h]

end


/-! ### The chain of changes of a step -/

/-- No change of the tables touches the executor, the arbiter's grant or the RESET level. -/
theorem TableChange.frame {s u : State} (h : TableChange s u) :
    u.executor = s.executor ∧ u.resetAsserted = s.resetAsserted := by
  cases h with
  | retire | formCohort | dissolve | advance | startRebuild | startDay | raise | resetUnit =>
    exact ⟨by simp, by simp⟩
  | _ => exact ⟨rfl, rfl⟩

theorem Effect.executor {s u : State} (h : Effect s u) : u.executor = s.executor := by
  induction h with
  | refl => rfl
  | tail _ h ih => exact h.frame.1.trans ih

/-- What a step does: the power-on values, or a chain of changes and then a move of the links. -/
def StepEffect (s t : State) : Prop :=
  (∃ pending fresh, t = { State.reset with pending := pending, fresh := fresh }) ∨
    ∃ u, Effect s u ∧ LinkMove u t

theorem StepEffect.of_effect {s t : State} (h : Effect s t) : StepEffect s t :=
  .inr ⟨t, h, .refl t⟩

theorem StepEffect.of_linkMove {s t : State} (h : LinkMove s t) : StepEffect s t :=
  .inr ⟨s, .refl, h⟩

theorem runCommand_effect {c : Command} {body : Held → State → Reply} {s t : State}
    (hb : ∀ h s, (body h s).EffectOf s) (e : runCommand c body s = .next t) : StepEffect s t := by
  rcases runCommand_cases e with rfl | ⟨h, hold, ⟨st, -, rfl⟩ | ⟨-, u, st, pl, hu, rfl⟩⟩
  · exact .of_effect .refl
  · exact .of_linkMove (.answer hold.1 _ _)
  · have heff : Effect s u := by
      have := hb h s
      rwa [hu] at this
    exact .inr ⟨u, heff, .answer (heff.executor.trans hold.1) _ _⟩

/-- What every command of the table does. -/
theorem exec_effect {c : Instr} {s t : State} (e : exec c s = .next t) : StepEffect s t := by
  cases c with
  | powerOn => cases e; exact .inl ⟨_, _, rfl⟩
  | warmReset =>
    change execWarmReset s = _ at e
    unfold execWarmReset at e
    split at e
    · cases e; exact .of_effect .refl
    · cases e; exact .inr ⟨_, TableChange.resetUnit.effect, .resetLinks _⟩
  | resetRelease => exact .of_linkMove (.resetRelease e)
  | selectAssert p => exact .of_linkMove (.selectAssert e)
  | responseSent p => exact .of_linkMove (.responseSent e)
  | frameArrival p bytes tail => cases e; exact .of_linkMove (.arrive ..)
  | unknownCommand => exact .of_linkMove (.unknownCommand e)
  | linkClear p tag payload => cases e; exact .of_linkMove (.arrive ..)
  | identify => exact runCommand_effect identifyBody_effect e
  | status => exact runCommand_effect statusBody_effect e
  | configure => exact runCommand_effect configureBody_effect e
  | attentionSet => exact runCommand_effect attentionSetBody_effect e
  | jobStatus => exact runCommand_effect jobStatusBody_effect e
  | familySet => exact runCommand_effect familySetBody_effect e
  | familyGet => exact runCommand_effect familyGetBody_effect e
  | lotLoad => exact runCommand_effect lotLoadBody_effect e
  | lotDrop => exact runCommand_effect lotDropBody_effect e
  | lotGet => exact runCommand_effect lotGetBody_effect e
  | laneEnrol => exact runCommand_effect laneEnrolBody_effect e
  | laneRetire => exact runCommand_effect laneRetireBody_effect e
  | lotAssign => exact runCommand_effect lotAssignBody_effect e
  | laneSuspend => exact runCommand_effect laneSuspendBody_effect e
  | laneResume => exact runCommand_effect laneResumeBody_effect e
  | readLane => exact runCommand_effect readLaneBody_effect e
  | cohortSet => exact runCommand_effect cohortSetBody_effect e
  | cohortDissolve => exact runCommand_effect cohortDissolveBody_effect e
  | readCohort => exact runCommand_effect readCohortBody_effect e
  | stripRead => exact runCommand_effect stripReadBody_effect e
  | referenceRead => exact runCommand_effect referenceReadBody_effect e
  | readSheetEntry => exact runCommand_effect readSheetEntryBody_effect e
  | closeDay => exact runCommand_effect closeDayBody_effect e
  | rebuild => exact runCommand_effect rebuildBody_effect e
  | cancelJob => exact runCommand_effect cancelJobBody_effect e
  | readChart => exact runCommand_effect readChartBody_effect e
  | excludeDay => exact runCommand_effect excludeDayBody_effect e
  | listAlerts => exact runCommand_effect listAlertsBody_effect e
  | ackAlert => exact runCommand_effect ackAlertBody_effect e
  | dayJobStart => exact .of_effect (dayJobStart_effect e)
  | deviateStep => exact .of_effect (deviateStep_effect e)
  | centerStep => exact .of_effect (centerStep_effect e)
  | applyStep => exact .of_effect (applyStep_effect e)
  | dayJobEnd => exact .of_effect (dayJobEnd_effect e)
  | rebuildStart => exact .of_effect (rebuildStart_effect e)
  | replayStep => exact .of_effect (replayStep_effect e)
  | rebuildEnd => exact .of_effect (rebuildEnd_effect e)
  | pulseStart p => exact .of_linkMove (.pulseStart e)
  | pulseEnd p => exact .of_linkMove (.pulseEnd e)

/-- A property that holds after power-on, that every change of the tables keeps and that every move of
the links keeps is kept by every step. -/
theorem step_keeps {P : State → Prop}
    (reset : ∀ pending fresh, P { State.reset with pending := pending, fresh := fresh })
    (change : ∀ s u, TableChange s u → P s → P u) (move : ∀ s u, LinkMove s u → P s → P u)
    {s t : State} (hs : P s) (e : step s = .next t) : P t := by
  unfold step at e
  split at e
  · cases e; exact hs
  rename_i c rest _
  have hrest : P { s with pending := rest } := move _ _ (.pending s rest) hs
  rcases exec_effect e with ⟨pending, fresh, rfl⟩ | ⟨u, hu, hm⟩
  · exact reset pending fresh
  · refine move _ _ hm ?_
    clear e hm
    induction hu with
    | refl => exact hrest
    | tail _ h ih => exact change _ _ h ih

end Sys2Proof.Machine

namespace Sys2Proof.Machine

/-! ### The law of families (R1, R4) -/

theorem FamilyLaw.congr {s t : State} (h : FamilyLaw s) (hf : t.families = s.families) :
    FamilyLaw t := by
  have hfam : ∀ f, t.family f = s.family f := fun f => by unfold State.family; rw [hf]
  refine ⟨fun f => ?_, fun f => ?_, fun f => ?_⟩ <;> rw [hfam]
  · exact h.undefined f
  · exact h.active f
  · exact h.pending f

/-- The law of families, record by record. -/
structure FamilyRecord.Lawful (r : FamilyRecord) : Prop where
  undefined : r.active = none → r.pending = none
  active : ∀ x, r.active = some x → x.InRange
  pending : ∀ x, r.pending = some x → x.InRange

theorem familyLaw_iff {s : State} : FamilyLaw s ↔ ∀ f, (s.family f).Lawful :=
  ⟨fun h f => ⟨h.undefined f, h.active f, h.pending f⟩,
    fun h => ⟨fun f => (h f).undefined, fun f => (h f).active, fun f => (h f).pending⟩⟩

theorem FamilyRecord.Lawful.promoted {r : FamilyRecord} (h : r.Lawful) : r.promoted.Lawful := by
  unfold FamilyRecord.promoted
  split
  · exact h
  · rename_i x hx
    exact ⟨fun hn => (by cases hn), fun y hy => (by cases hy; exact h.pending x hx),
      fun y hy => (by cases hy)⟩

theorem FamilyLaw.setFamily {s : State} (h : FamilyLaw s) {f : FamilyId} {r : FamilyRecord}
    (hr : r.Lawful) : FamilyLaw (s.setFamily f r) := by
  rw [familyLaw_iff] at h ⊢
  intro g
  rw [State.family_setFamily]
  split
  · exact hr
  · exact h g

theorem startDayJob_family (s : State) (d : Nat) (f : FamilyId) :
    (s.startDayJob d).family f = (s.family f).promoted := by
  rw [← State.promoteAll_family]
  unfold State.startDayJob
  obtain ⟨q, hq, -⟩ := State.setStage_frame
    ({ s.promoteAll with sheets := s.promoteAll.sheets.map (Sheet.startDay d) } : State) (.deviate 0)
  dsimp only
  rw [hq]
  rfl

theorem FamilyLaw.change {s u : State} (h : TableChange s u) (hs : FamilyLaw s) : FamilyLaw u := by
  cases h with
  | define f x hx _ =>
    exact hs.setFamily ⟨fun hn => (by cases hn), fun y hy => (by cases hy; exact hx),
      fun y hy => (by cases hy)⟩
  | propose f x act hx ha _ =>
    exact hs.setFamily ⟨fun hn => (by cases hn), fun y hy => (by cases hy; exact hs.active f act ha),
      fun y hy => (by cases hy; exact hx)⟩
  | startDay j rest d =>
    rw [familyLaw_iff] at hs ⊢
    intro f
    rw [startDayJob_family]
    exact (hs f).promoted
  | retire | formCohort | dissolve | advance | startRebuild | raise | resetUnit =>
    exact hs.congr (by simp)
  | _ => exact hs.congr rfl

/-- The law of families is kept by every step (R1, R4). -/
theorem FamilyLaw.step {s t : State} (hs : FamilyLaw s) (e : step s = .next t) : FamilyLaw t :=
  step_keeps (fun _ _ => FamilyLaw.reset.congr rfl) (fun _ _ => FamilyLaw.change)
    (fun _ _ m h => h.congr m.tables.families) hs e

/-! ### The law of the lot table (R2, R4, R7, R11) -/

/-- The lot table stays as it is, and the families that have lots keep their structure. -/
theorem LotLaw.of_settings {s t : State} (h : LotLaw s) (hl : t.lots = s.lots)
    (hactive : ∀ l ∈ s.lots, ∀ x, (s.family l.family).active = some x →
      ∃ y, (t.family l.family).active = some y ∧ y.layout = x.layout)
    (hpending : ∀ l ∈ s.lots, ∀ x y, (t.family l.family).active = some x →
      (t.family l.family).pending = some y → y.layout = x.layout) : LotLaw t := by
  obtain ⟨h1, h2, h3, h4, h5, h6, h7, -⟩ := h
  constructor <;> rw [hl]
  · exact h1
  · exact h2
  · exact h3
  · intro l hm
    obtain ⟨x, hx, hp, hs, ha⟩ := h4 l hm
    obtain ⟨y, hy, hlay⟩ := hactive l hm x hx
    obtain ⟨hpatch, hplan⟩ := Settings.sizes_of_layout_eq hlay
    exact ⟨y, hy, by rw [hp, hpatch], by rw [hs, hplan], by rw [ha, hplan]⟩
  · exact h5
  · exact h6
  · exact h7
  · exact hpending

theorem LotLaw.congr {s t : State} (h : LotLaw s) (hf : t.families = s.families)
    (hl : t.lots = s.lots) : LotLaw t := by
  have hfam : ∀ f, t.family f = s.family f := fun f => by unfold State.family; rw [hf]
  refine h.of_settings hl (fun l _ x hx => ⟨x, ?_, rfl⟩) fun l hm x y => ?_ <;> rw [hfam]
  · exact hx
  · exact h.structureKept l hm x y

/-- Densities of a lot within 0..4000 give plan values within -4000..+4000 (R2). -/
theorem planValue_bounds {ds : List Int} (hds : ∀ d ∈ ds, 0 ≤ d ∧ d ≤ 4000) {sh : EntryShape} {v : Int}
    (h : planValue ds sh = some v) : -4000 ≤ v ∧ v ≤ 4000 := by
  have density : ∀ {a c x}, densityAt ds a c = some x → 0 ≤ x ∧ x ≤ 4000 := fun hx =>
    hds _ (List.mem_of_getElem? hx)
  unfold planValue at h
  split at h
  · have := density h; omega
  · split at h
    · rename_i hx hy
      cases h
      have h1 := density hx
      have h2 := density hy
      omega
    · cases h

/-- The aims of a lot lie within -4500..+4500 (R12). -/
theorem lotAims_bounds {plan : List PlanEntry} {published : List Nat} {shifts : List (Option Int)}
    {aims : List Int} (hs : shifts.length = plan.length) (hd : ∀ v ∈ published, v ≤ 4000)
    (hr : ∀ v, some v ∈ shifts → -500 ≤ v ∧ v ≤ 500) (h : lotAims plan published shifts = some aims) :
    ∀ v ∈ aims, -4500 ≤ v ∧ v ≤ 4500 := by
  intro v hv
  obtain ⟨i, hi, rfl⟩ := List.mem_iff_getElem.mp hv
  have hip : i < plan.length := by rwa [lotAims_length hs h] at hi
  obtain ⟨w, hw, haim⟩ := lotAims_getElem? hs h (List.getElem?_eq_getElem hip)
  rw [List.getElem?_eq_getElem hi, Option.some.injEq] at haim
  have hwb := planValue_bounds (ds := published.map fun (x : Nat) => (x : Int)) (fun d hd' => by
    obtain ⟨n, hn, rfl⟩ := List.mem_map.mp hd'
    have := hd n hn
    omega) hw
  have hshift : -500 ≤ (shifts[i]?.getD none).getD 0 ∧ (shifts[i]?.getD none).getD 0 ≤ 500 := by
    rw [List.getElem?_eq_getElem (hs ▸ hip), Option.getD_some]
    cases hsi : shifts[i]'(hs ▸ hip) with
    | none => simp
    | some x => exact hr x (hsi ▸ List.getElem_mem _)
  omega

theorem mem_insertLot {l x : LotRecord} {ls : List LotRecord} (hfresh : ∀ y ∈ ls, y.code ≠ l.code) :
    x ∈ insertLot l ls ↔ x = l ∨ x ∈ ls := by
  simp only [insertLot, List.mem_append, List.mem_filter, List.mem_singleton, decide_eq_true_eq]
  constructor
  · rintro ((⟨h, -⟩ | h) | ⟨h, -⟩)
    · exact .inr h
    · exact .inl h
    · exact .inr h
  · rintro (h | h)
    · exact .inl (.inr h)
    · rcases lt_or_gt_of_ne (hfresh x h) with hlt | hlt
      · exact .inl (.inl ⟨h, hlt⟩)
      · exact .inr ⟨h, hlt⟩

/-- A record placed in code order (R11). -/
theorem insertLot_pairwise {l : LotRecord} {ls : List LotRecord}
    (h : ls.Pairwise fun x y => x.code < y.code) :
    (insertLot l ls).Pairwise fun x y => x.code < y.code := by
  unfold insertLot
  rw [List.append_assoc, List.singleton_append, List.pairwise_append]
  refine ⟨h.filter _, List.pairwise_cons.mpr ⟨fun y hy => ?_, h.filter _⟩, fun x hx y hy => ?_⟩
  · simpa using (List.mem_filter.mp hy).2
  · have hxl : x.code < l.code := by simpa using (List.mem_filter.mp hx).2
    rcases List.mem_cons.mp hy with rfl | hy
    · exact hxl
    · have : l.code < y.code := by simpa using (List.mem_filter.mp hy).2
      omega

theorem filter_lt_length_add {l : LotRecord} {ls : List LotRecord} :
    (ls.filter (fun x => decide (x.code < l.code))).length +
      (ls.filter (fun x => decide (l.code < x.code))).length ≤ ls.length := by
  induction ls with
  | nil => simp
  | cons x xs ih =>
    by_cases h1 : x.code < l.code
    · have h2 : ¬ l.code < x.code := by omega
      simp [h1, h2]; omega
    · by_cases h2 : l.code < x.code <;> simp [h1, h2] <;> omega

theorem LotLaw.loadLot {s : State} {l : LotRecord} {act : Settings} (h : LotLaw s)
    (hl : LoadedLot s l act) : LotLaw { s with lots := insertLot l s.lots } := by
  have mem : ∀ {x}, x ∈ insertLot l s.lots → x = l ∨ x ∈ s.lots := fun hx =>
    (mem_insertLot hl.fresh).mp hx
  refine ⟨?_, insertLot_pairwise h.codesAscend, fun x hx => ?_, fun x hx => ?_, fun x hx => ?_,
    fun x hx => ?_, fun x hx => ?_, fun x hx => ?_⟩
  · have h1 := filter_lt_length_add (l := l) (ls := s.lots)
    have h2 := hl.room
    show (insertLot l s.lots).length ≤ 32
    unfold insertLot
    rw [List.length_append, List.length_append, List.length_singleton]; omega
  all_goals rcases mem hx with rfl | hx
  · exact hl.code
  · exact h.codeRange x hx
  · exact ⟨act, hl.active, hl.published, hl.shifts, lotAims_length hl.shifts hl.aims⟩
  · exact h.shape x hx
  · exact hl.densities
  · exact h.densities x hx
  · exact hl.shiftRange
  · exact h.shiftRange x hx
  · exact lotAims_bounds hl.shifts hl.densities hl.shiftRange hl.aims
  · exact h.aimRange x hx
  · intro a b ha hb
    have hact : (s.family x.family).active = some a := ha
    rw [hl.active] at hact
    cases hact
    exact hl.pending b hb
  · exact h.structureKept x hx

theorem LotLaw.dropLot {s : State} (h : LotLaw s) (code : Nat) : LotLaw (s.dropLot code) := by
  obtain ⟨h1, h2, h3, h4, h5, h6, h7, h8⟩ := h
  have sub : ∀ {l}, l ∈ (s.dropLot code).lots → l ∈ s.lots := fun hl => List.mem_of_mem_filter hl
  exact ⟨(List.length_filter_le ..).trans h1, h2.filter _, fun l hl => h3 l (sub hl),
    fun l hl => h4 l (sub hl), fun l hl => h5 l (sub hl), fun l hl => h6 l (sub hl),
    fun l hl => h7 l (sub hl), fun l hl => h8 l (sub hl)⟩

/-- A family with lots has the structure after a promotion that it had before (R7, R8). -/
theorem LotLaw.promoted {s t : State} (h : LotLaw s) (hl : t.lots = s.lots)
    (hf : ∀ f, t.family f = (s.family f).promoted) : LotLaw t := by
  refine h.of_settings hl (fun l hm x hx => ?_) fun l hm x y hx hy => ?_
  · rw [hf]
    unfold FamilyRecord.promoted
    split
    · exact ⟨x, hx, rfl⟩
    · rename_i y hy
      exact ⟨y, rfl, h.structureKept l hm x y hx hy⟩
  · rw [hf] at hx hy
    unfold FamilyRecord.promoted at hx hy
    split at hy
    · rename_i hnone; rw [hnone] at hy; cases hy
    · cases hy

theorem LotLaw.change {s u : State} (h : TableChange s u) (hs : LotLaw s) : LotLaw u := by
  cases h with
  | define f x _ hundef =>
    have hother : ∀ l ∈ s.lots, (s.setFamily f (.activate x)).family l.family = s.family l.family :=
      fun l hl => s.family_setFamily_ne _ fun hf => by
        obtain ⟨y, hy, -⟩ := hs.shape l hl
        rw [← hf, hundef] at hy; cases hy
    refine hs.of_settings rfl (fun l hl y hy => ⟨y, ?_, rfl⟩) fun l hl y z => ?_ <;> rw [hother l hl]
    · exact hy
    · exact hs.structureKept l hl y z
  | propose f x act _ ha hlay =>
    refine hs.of_settings rfl (fun l hl y hy => ⟨y, ?_, rfl⟩) fun l hl y z => ?_ <;>
      rw [State.family_setFamily]
    · split
      · rename_i hf; rw [← hf, ha] at hy; exact hy
      · exact hy
    · split
      · rename_i hf
        intro hy hz
        cases hy; cases hz
        exact hlay ⟨l, hl, hf.symm⟩
      · exact hs.structureKept l hl y z
  | loadLot l act hl => exact hs.loadLot hl
  | dropLot code => exact hs.dropLot code
  | startDay j rest d =>
    exact hs.promoted (by simp) (startDayJob_family s d)
  | retire | formCohort | dissolve | advance | startRebuild | raise | resetUnit =>
    exact hs.congr (by simp) (by simp)
  | _ => exact hs.congr rfl rfl

/-- The law of the lot table is kept by every step (R2, R4, R7, R11). -/
theorem LotLaw.step {s t : State} (hs : LotLaw s) (e : step s = .next t) : LotLaw t :=
  step_keeps (fun _ _ => LotLaw.reset.congr rfl rfl) (fun _ _ => LotLaw.change)
    (fun _ _ m h => h.congr m.tables.families m.tables.lots) hs e

end Sys2Proof.Machine

namespace Sys2Proof.Machine

/-! ### The law of the work queue (R96 to R98, R101) -/

theorem QueueLaw.congr {s t : State} (h : QueueLaw s) (hq : t.queue = s.queue)
    (hn : t.nextJobId = s.nextJobId) (hf : t.finished = s.finished) : QueueLaw t := by
  have hids : t.heldJobIds = s.heldJobIds := by unfold State.heldJobIds; rw [hq, hf]
  obtain ⟨h1, h2, h3, h4, h5, h6, h7, h8, h9⟩ := h
  constructor <;> simp only [hq, hn, hf, hids] <;> assumption

/-- A job of the queue stands in one place of it, and leaves it from there. -/
theorem QueueLaw.split {s : State} (h : QueueLaw s) {j : Job} (hj : j ∈ s.queue) :
    ∃ before after, s.queue = before ++ j :: after ∧
      (s.queue.eraseP fun x => x.id == j.id) = before ++ after := by
  obtain ⟨a, l1, l2, -, ha, hq, he⟩ := List.exists_of_eraseP hj
    (p := fun x => x.id == j.id) (by simp)
  have hids : (s.queue.map (·.id)).Nodup := (List.nodup_append.mp h.idsDistinct).1
  have haj : a = j := List.inj_on_of_nodup_map hids (hq ▸ by simp) hj (by simpa using ha)
  subst haj
  exact ⟨l1, l2, hq, he⟩

/-- The queue holds no running job but its head (R96). -/
theorem QueueLaw.queued_of_mem_tail {s : State} (h : QueueLaw s) {j x : Job} {rest : List Job}
    (hq : s.queue = j :: rest) (hx : x ∈ rest) : x.state = .queued :=
  h.headAloneRuns x (by rw [hq]; exact hx)

/-- A running job is the head of the queue (R96). -/
theorem QueueLaw.head_of_running {s : State} (h : QueueLaw s) {j : Job} {st : Stage}
    (hj : j ∈ s.queue) (hs : j.state = .running st) : ∃ rest, s.queue = j :: rest := by
  cases hq : s.queue with
  | nil => rw [hq] at hj; cases hj
  | cons x rest =>
    rw [hq] at hj
    rcases List.mem_cons.mp hj with rfl | hj
    · exact ⟨rest, rfl⟩
    · have := h.queued_of_mem_tail hq hj
      rw [hs] at this; cases this

/-- The head job's state replaced by one of its own kind. -/
theorem QueueLaw.setHead {s t : State} (h : QueueLaw s) {j : Job} {rest : List Job} {st : Stage}
    (hq : s.queue = j :: rest) (hst : st.fits j.kind = true)
    (htq : t.queue = { j with state := .running st } :: rest) (hn : t.nextJobId = s.nextJobId)
    (hf : t.finished = s.finished) : QueueLaw t := by
  have hids : t.heldJobIds = s.heldJobIds := by
    unfold State.heldJobIds; rw [htq, hq, hf]; rfl
  obtain ⟨h1, h2, h3, h4, h5, h6, h7, h8, h9⟩ := h
  rw [hq] at h1 h3 h4
  constructor
  · rw [htq]; exact h1
  · rw [hf]; exact h2
  · rw [htq]; exact h3
  · rw [htq]
    intro x hx st' hs
    rcases List.mem_cons.mp hx with rfl | hx
    · cases hs; exact hst
    · exact h4 x (List.mem_cons_of_mem _ hx) st' hs
  · intro i
    have := h5 i
    rw [hq, List.countP_cons] at this
    rw [htq, List.countP_cons]
    exact this
  · rw [hids]; exact h6
  · rw [hids]; exact h7
  · rw [hids, hn]; exact h8
  · rw [hn]; exact h9

theorem State.setStage_queue {s : State} {j : Job} {rest : List Job} (hq : s.queue = j :: rest)
    (st : Stage) : (s.setStage st).queue = { j with state := .running st } :: rest := by
  unfold State.setStage State.setHeadState
  rw [hq]

/-- The next stage is of the same kind of job (R98). -/
theorem Stage.fits_next {st : Stage} {k : JobKind} (h : st.fits k = true) : st.next.fits k = true := by
  cases st <;> cases k <;> simp [Stage.fits] at h
  case deviate.day i d => unfold Stage.next; dsimp only; split <;> rfl
  case center.day c d => unfold Stage.next; dsimp only; split <;> rfl
  case apply.day i d => unfold Stage.next; dsimp only; split <;> rfl
  case applied.day d => rfl
  case replay.rebuild n i => rfl

theorem findRebuild_eq_none {s : State} {i : Slot} :
    s.findRebuild i = none ↔ ∀ j ∈ s.queue, j.kind ≠ .rebuild i := by
  simp [State.findRebuild]

/-- A job joins a queue with room; a lane's second REBUILD job does not (R96, R97). -/
theorem QueueLaw.joinJob {s : State} (h : QueueLaw s) {k : JobKind} (hroom : s.queue.length < 8)
    (hk : ∀ i, k = .rebuild i → s.findRebuild i = none) : QueueLaw (s.joinJob k) := by
  have hids : (s.joinJob k).heldJobIds.Perm (s.nextJobId :: s.heldJobIds) := by
    rw [State.joinJob_eq]
    simp only [State.heldJobIds, List.map_append, List.map_cons, List.map_nil, List.append_assoc,
      List.singleton_append]
    exact List.perm_middle
  have hnext : (s.joinJob k).nextJobId = advanceId (s.joinJob k).heldJobIds s.nextJobId := rfl
  have hqueue : (s.joinJob k).queue = s.queue ++ [⟨s.nextJobId, k, .queued⟩] := rfl
  obtain ⟨h1, h2, h3, h4, h5, h6, h7, h8, h9⟩ := h
  constructor
  · rw [hqueue, List.length_append]; exact hroom
  · exact h2
  · rw [hqueue]
    intro j hj
    cases hq : s.queue with
    | nil => rw [hq] at hj; cases hj
    | cons x rest =>
      rw [hq] at h3 hj
      rcases List.mem_append.mp (show j ∈ rest ++ _ from hj) with hj | hj
      · exact h3 j hj
      · rw [List.mem_singleton.mp hj]
  · rw [hqueue]
    intro j hj st hs
    rcases List.mem_append.mp hj with hj | hj
    · exact h4 j hj st hs
    · rw [List.mem_singleton.mp hj] at hs; cases hs
  · intro i
    rw [hqueue, List.countP_append, List.countP_singleton]
    split
    · rename_i hki
      have hnone := findRebuild_eq_none.mp (hk i (by simpa using hki))
      rw [List.countP_eq_zero.mpr fun j hj => by simpa using hnone j hj]
    · exact h5 i
  · exact hids.nodup_iff.mpr (List.nodup_cons.mpr ⟨h8, h6⟩)
  · intro n hn
    rcases List.mem_cons.mp (hids.mem_iff.mp hn) with rfl | hn
    · exact h9
    · exact h7 n hn
  · rw [hnext]
    refine advanceId_not_mem ?_ _
    rw [hids.length_eq]
    simp only [State.heldJobIds, List.length_cons, List.length_append, List.length_map]
    omega
  · rw [hnext]; exact advanceId_range _ _

/-- A job of the queue leaves it and its outcome joins the finished list (R101). -/
theorem QueueLaw.finishJob {s : State} (h : QueueLaw s) {j : Job} (hj : j ∈ s.queue) (r : JobResult) :
    QueueLaw (s.finishJob j r) := by
  obtain ⟨before, after, hq, he⟩ := h.split hj
  have hqueue : (s.finishJob j r).queue = before ++ after := he
  have hsub : (before ++ after).Sublist s.queue := by
    rw [hq]; exact (List.Sublist.refl before).append (List.sublist_cons_self j after)
  obtain ⟨h1, h2, h3, h4, h5, h6, h7, h8, h9⟩ := h
  have hmoved : (((before ++ after).map (·.id)) ++ (s.finished.map (·.id) ++ [j.id])).Perm
      s.heldJobIds := by
    unfold State.heldJobIds
    rw [hq]
    simp only [List.map_append, List.map_cons, List.append_assoc, List.cons_append]
    refine List.Perm.append_left _ ?_
    rw [← List.append_assoc]
    exact List.perm_append_singleton _ _
  have hheld : (s.finishJob j r).heldJobIds.Sublist
      (((before ++ after).map (·.id)) ++ (s.finished.map (·.id) ++ [j.id])) := by
    show (((s.finishJob j r).queue.map (·.id)) ++ _).Sublist _
    rw [hqueue]
    refine (List.Sublist.refl _).append ?_
    show ((addOutcome _ s.finished).map (·.id)).Sublist _
    rw [show s.finished.map (·.id) ++ [j.id] =
      (s.finished ++ [(⟨j.id, j.kind, r⟩ : JobOutcome)]).map (·.id) by simp]
    exact (List.drop_sublist _ _).map _
  have hmem : ∀ n ∈ (s.finishJob j r).heldJobIds, n ∈ s.heldJobIds := fun n hn =>
    hmoved.mem_iff.mp (hheld.subset hn)
  constructor
  · rw [hqueue]; exact hsub.length_le.trans h1
  · exact addOutcome_length h2
  · rw [hqueue]
    intro x hx
    refine h3 x ?_
    rw [hq]
    cases before with
    | nil => exact List.mem_of_mem_tail hx
    | cons b bs =>
      rcases List.mem_append.mp (show x ∈ bs ++ after from hx) with hx | hx
      · exact List.mem_append_left _ hx
      · exact List.mem_append_right _ (List.mem_cons_of_mem _ hx)
  · rw [hqueue]; exact fun x hx => h4 x (hsub.subset hx)
  · rw [hqueue]; exact fun i => (hsub.countP_le).trans (h5 i)
  · exact hheld.nodup (hmoved.nodup_iff.mpr h6)
  · exact fun n hn => h7 n (hmem n hn)
  · exact fun hn => h8 (hmem _ hn)
  · exact h9

theorem QueueLaw.joinDays {s : State} (h : QueueLaw s) {ds : List Nat}
    (hroom : s.queue.length + ds.length ≤ 8) :
    QueueLaw (ds.foldl (fun t d => t.joinJob (.day d)) s) := by
  induction ds generalizing s with
  | nil => exact h
  | cons d ds ih =>
    rw [List.length_cons] at hroom
    refine ih (h.joinJob (by omega) fun i hi => by cases hi) ?_
    show (s.queue ++ [_]).length + _ ≤ 8
    rw [List.length_append, List.length_singleton]; omega

/-- There are no more CLOSING sheets than sheets. -/
theorem closingDays_length_le (s : State) : s.closingDays.length ≤ 4 := by
  unfold State.closingDays
  rw [(sortAscending_perm _).length_eq]
  exact (List.length_filterMap_le ..).trans s.sheets.size.le

theorem QueueLaw.resetUnit {s : State} (h : QueueLaw s) : QueueLaw s.resetUnit := by
  unfold State.resetUnit
  obtain ⟨lanes, hl⟩ := s.stopRunningRebuild_frame
  dsimp only
  refine QueueLaw.joinDays ⟨?_, ?_, ?_, ?_, ?_, ?_, ?_, ?_, ?_⟩ ?_ <;> rw [hl]
  · exact Nat.zero_le _
  · exact Nat.zero_le _
  · exact fun j hj => by cases hj
  · exact fun j hj => by cases hj
  · exact fun i => Nat.zero_le _
  · exact List.nodup_nil
  · exact fun n hn => by cases hn
  · exact List.not_mem_nil
  · exact h.nextInRange
  · rw [List.length_nil, Nat.zero_add]
    exact (closingDays_length_le _).trans (by decide)

theorem QueueLaw.retire {s : State} (h : QueueLaw s) (i : Slot) : QueueLaw (s.retire i) := by
  have hcancel : QueueLaw (s.cancelRebuildOf i) := by
    unfold State.cancelRebuildOf
    split
    · exact h
    · exact h.finishJob (List.mem_of_find?_eq_some ‹_›) _
  obtain ⟨queue, finished, hf⟩ := s.cancelRebuildOf_frame i
  rw [State.retire_eq]
  exact hcancel.congr rfl (by rw [hf]) rfl

theorem QueueLaw.change {s u : State} (h : TableChange s u) (hs : QueueLaw s) : QueueLaw u := by
  cases h with
  | retire i => exact hs.retire i
  | advance j rest st hq hst =>
    exact hs.setHead hq (Stage.fits_next (hs.stageFits j (by simp [hq]) st hst))
      (State.setStage_queue hq _) (by simp) (by simp)
  | closeDay d k free _ _ _ hroom => exact (hs.joinJob hroom fun i hi => by cases hi).congr rfl rfl rfl
  | joinRebuild i _ hnone hroom =>
    exact hs.joinJob hroom fun i' hi => by cases hi; exact hnone
  | cancelRebuild j i hj => exact hs.finishJob hj _
  | endRebuild j i st c r hj => exact (hs.congr rfl rfl rfl : QueueLaw (s.setLane i _)).finishJob hj r
  | startRebuild j rest i hq _ hk =>
    exact hs.setHead hq (by rw [hk]; rfl)
      (State.setStage_queue (s := s.setLane i (s.lane i).startRebuild) hq _) (by simp) (by simp)
  | startDay j rest d hq _ hk =>
    exact hs.setHead hq (st := .deviate 0) (by rw [hk]; rfl) (by rw [State.startDayJob_eq d hq])
      (by simp) (by simp)
  | endDay j rest d hq =>
    have hsheets : QueueLaw { s with sheets := s.sheets.map (Sheet.endDay d) } := hs.congr rfl rfl rfl
    exact hsheets.finishJob (hq ▸ List.mem_cons_self ..) _
  | resetUnit => exact hs.resetUnit
  | formCohort | dissolve | raise => exact hs.congr (by simp) (by simp) (by simp)
  | _ => exact hs.congr rfl rfl rfl

/-- The laws of the work queue are kept by every step (R96 to R98, R101). -/
theorem QueueLaw.step {s t : State} (hs : QueueLaw s) (e : step s = .next t) : QueueLaw t :=
  step_keeps (fun _ _ => QueueLaw.reset.congr rfl rfl rfl) (fun _ _ => QueueLaw.change)
    (fun _ _ m h => h.congr m.tables.queue m.tables.nextJobId m.tables.finished) hs e

end Sys2Proof.Machine

namespace Sys2Proof.Machine

/-! ### The records after each composite operation -/

theorem lane_setCohortField (x : Option CohortId) (is : List Slot) (s : State) (m : Slot) :
    (State.setCohortField x is s).lane m =
      if m ∈ is then { s.lane m with cohort := x } else s.lane m := by
  induction is generalizing s with
  | nil => simp [State.setCohortField]
  | cons i is ih =>
    unfold State.setCohortField
    rw [ih, State.lane_setLane]
    by_cases him : i = m
    · subst him; simp
    · simp [him, Ne.symm him]

/-- Who leaves a cohort when COHORT SET gives it other members (R81). -/
theorem mem_leavers {s : State} {r : CohortRequest} {m : Slot} :
    m ∈ leavers s r ↔ (∃ x, s.cohort r.id = some x ∧ m ∈ x.members) ∧ m ∉ r.members := by
  unfold leavers membersOf
  cases s.cohort r.id <;> simp

theorem formCohort_lane (s : State) (r : CohortRequest) (m : Slot) : (s.formCohort r).lane m =
    if m ∈ r.members then { s.lane m with cohort := some r.id }
    else if m ∈ leavers s r then { s.lane m with cohort := none }
    else s.lane m := by
  unfold State.formCohort
  rw [State.lane_of_setCohort, lane_setCohortField, lane_setCohortField]
  split
  · split <;> rfl
  · rfl

theorem formCohort_cohort (s : State) (r : CohortRequest) (c : CohortId) :
    (s.formCohort r).cohort c = if r.id = c then
      some ⟨r.family, r.mode, sortAscending r.members, none, none, 0⟩ else s.cohort c := by
  obtain ⟨_, h⟩ := s.formCohort_frame r
  rw [h]
  exact s.cohort_setCohort r.id c _

theorem dissolve_lane (s : State) (c : CohortId) (ms : List Slot) (m : Slot) :
    (s.dissolve c ms).lane m = if m ∈ ms then { s.lane m with cohort := none } else s.lane m :=
  lane_setCohortField none ms s m

theorem dissolve_cohort (s : State) (c d : CohortId) (ms : List Slot) :
    (s.dissolve c ms).cohort d = if c = d then none else s.cohort d := by
  obtain ⟨_, h⟩ := s.dissolve_frame c ms
  rw [h]
  exact s.cohort_setCohort c d none

theorem retire_lane (s : State) (i m : Slot) :
    (s.retire i).lane m = if i = m then .vacant else s.lane m := by
  rw [State.retire_eq]; exact s.lane_setLane i m _

theorem retire_sheet (s : State) (i : Slot) (k : SheetNo) :
    (s.retire i).sheet k = (s.sheet k).without i := by
  rw [State.retire_eq]; exact Table.get_map ..

theorem retire_cohort (s : State) (i : Slot) (c : CohortId) : (s.retire i).cohort c =
    if (s.lane i).cohort = some c then (s.cohort c).map (Cohort.without i) else s.cohort c := by
  rw [State.retire_eq]
  show (s.leaveCohort i).cohort c = _
  unfold State.leaveCohort
  split
  · rename_i h; simp [h]
  · rename_i d h
    rw [State.cohort_setCohort, h]
    by_cases hdc : d = c
    · subst hdc; simp
    · simp [hdc]

theorem retire_queue (s : State) (i : Slot) : (s.retire i).queue = (s.cancelRebuildOf i).queue := by
  rw [State.retire_eq]

theorem retire_directory (s : State) (i : Slot) :
    (s.retire i).directory = s.directory.filter fun e => e.2 != i := by
  rw [State.retire_eq]

theorem startDayJob_sheet (s : State) (d : Nat) (k : SheetNo) :
    (s.startDayJob d).sheet k = (s.sheet k).startDay d := by
  obtain ⟨_, _, _, _, h⟩ := s.startDayJob_frame d
  rw [h]; exact Table.get_map ..

/-- The lanes and the cohorts at the start of a DAY job are those after the promotion (R102). -/
theorem startDayJob_records (s : State) (d : Nat) :
    (∀ i, (s.startDayJob d).lane i = s.promoteAll.lane i) ∧
      ∀ c, (s.startDayJob d).cohort c = s.promoteAll.cohort c := by
  unfold State.startDayJob
  obtain ⟨q, hq, -⟩ := State.setStage_frame
    ({ s.promoteAll with sheets := s.promoteAll.sheets.map (Sheet.startDay d) } : State) (.deviate 0)
  dsimp only
  rw [hq]
  exact ⟨fun _ => rfl, fun _ => rfl⟩

theorem startDayJob_lane {s : State} (d : Nat) {i : Slot} {f : FamilyId}
    (hf : (s.lane i).family = some f) :
    (s.startDayJob d).lane i = (s.family f).remakeLane f (s.lane i) := by
  rw [(startDayJob_records s d).1, State.promoteAll_lane, hf]

/-- The lanes at the start of a DAY job (R8): a lane of a family whose structure changes is remade. -/
theorem startDayJob_lane_cases (s : State) (d : Nat) (i : Slot) :
    (s.startDayJob d).lane i = s.lane i ∨ ∃ f x, (s.family f).remade = some x ∧
      (s.lane i).state ≠ .vacant ∧ (s.lane i).family = some f ∧
      (s.startDayJob d).lane i = { s.lane i with params := freshParams x } := by
  cases hf : (s.lane i).family with
  | none => rw [(startDayJob_records s d).1, State.promoteAll_lane, hf]; exact .inl rfl
  | some f =>
    rw [startDayJob_lane d hf]
    obtain h | ⟨x, hx, hv, -, h⟩ := (s.family f).remakeLane_cases f (s.lane i)
    · exact .inl h
    · exact .inr ⟨f, x, hx, hv, rfl, h⟩

theorem startDayJob_cohort {s : State} (d : Nat) {c : CohortId} {y : Cohort}
    (hy : s.cohort c = some y) :
    (s.startDayJob d).cohort c = (s.family y.family).remakeCohort y.family (some y) := by
  rw [(startDayJob_records s d).2, State.promoteAll_cohort, hy]
  rfl

theorem startDayJob_cohort_cases (s : State) (d : Nat) (c : CohortId) :
    (s.startDayJob d).cohort c = s.cohort c ∨ ∃ x y, (s.family y.family).remade = some x ∧
      s.cohort c = some y ∧
      (s.startDayJob d).cohort c = some { y with centers := none, count := 0 } := by
  cases hy : s.cohort c with
  | none => rw [(startDayJob_records s d).2, State.promoteAll_cohort, hy]; exact .inl rfl
  | some y =>
    rw [startDayJob_cohort d hy]
    obtain h | ⟨x, y', hx, hy', -, h⟩ := (s.family y.family).remakeCohort_cases y.family (some y)
    · exact .inl h
    · cases hy'; exact .inr ⟨x, y, hx, rfl, h⟩

theorem closeDay_sheet (s : State) (d : Nat) (k free m : SheetNo) : (s.closeDay d k free).sheet m =
    if free = m then ⟨.opened, some (d + 2), Table.fill 128 none⟩
    else if k = m then { s.sheet k with state := .closing } else s.sheet m := by
  show ((s.setSheet k { s.sheet k with state := .closing }).setSheet free _).sheet m = _
  rw [State.sheet_setSheet, State.sheet_setSheet]

theorem configure_sheet (s : State) (p : List Byte) (m : SheetNo) : (s.configure p).sheet m =
    if m = 1 then ⟨.opened, some (wordAt p 6 + 1), Table.fill 128 none⟩
    else if m = 0 then ⟨.opened, some (wordAt p 6), Table.fill 128 none⟩ else s.sheet m := by
  show ((s.sheets.set 0 _).set 1 _).get m = _
  rw [Table.get_set, Table.get_set]
  simp only [eq_comm (a := m)]
  rfl

theorem resetUnit_sheet (s : State) (k : SheetNo) :
    s.resetUnit.sheet k = (s.sheet k).warmReset := by
  obtain ⟨_, _, h⟩ := s.resetUnit_frame
  rw [h]; exact Table.get_map ..

theorem resetUnit_lane (s : State) (i : Slot) : s.resetUnit.lane i =
    if s.rebuildRunning i then (s.lane i).stopRebuild else s.lane i := by
  obtain ⟨_, _, h⟩ := s.resetUnit_frame
  rw [h]
  show s.stopRunningRebuild.lane i = _
  unfold State.stopRunningRebuild State.rebuildRunning
  cases s.running with
  | none => rfl
  | some r =>
    obtain ⟨j, st⟩ := r
    cases hk : j.kind with
    | day d => simp only [hk]; rfl
    | rebuild m =>
      simp only [hk, State.lane_setLane]
      by_cases hm : m = i
      · subst hm; simp
      · simp [hm]

end Sys2Proof.Machine

namespace Sys2Proof.Machine

/-! ### The law of the alert list (R146 to R151) -/

theorem AlertLaw.congr {s t : State} (h : AlertLaw s) (ha : t.alerts = s.alerts)
    (hn : t.nextSerial = s.nextSerial) (ho : t.overflow = s.overflow) : AlertLaw t := by
  obtain ⟨h1, h2, h3, h4, h5, h6, h7, h8, h9⟩ := h
  constructor <;> simp only [ha, hn, ho] <;> assumption

/-- Records leave the list; an empty list has the indicator clear (R151). -/
theorem AlertLaw.filter {s t : State} (h : AlertLaw s) (p : Alert → Bool)
    (ha : t.alerts = s.alerts.filter p) (hn : t.nextSerial = s.nextSerial)
    (ho : t.overflow = (s.overflow && !(s.alerts.filter p).isEmpty)) : AlertLaw t := by
  have hsub : t.alerts.Sublist s.alerts := ha ▸ List.filter_sublist
  obtain ⟨h1, h2, h3, h4, h5, h6, h7, h8, -⟩ := h
  refine ⟨hsub.length_le.trans h1, h2.sublist (hsub.map _), h3.sublist (hsub.map _),
    fun a hm => h4 a (hsub.subset hm), fun a hm => h5 a (hsub.subset hm),
    fun a hm => h6 a (hsub.subset hm), ?_, by rw [hn]; exact h8, fun hover => ?_⟩
  · rw [hn]; exact fun hm => h7 ((hsub.map _).subset hm)
  · rw [ho, Bool.and_eq_true] at hover
    rw [ha]
    simpa using hover.2

/-- Records changed in place, each with its kind, subject and serial kept (R148). -/
theorem AlertLaw.update {s t : State} (h : AlertLaw s) (g : Alert → Alert)
    (hkeep : ∀ a, (g a).kind = a.kind ∧ (g a).subject = a.subject ∧ (g a).serial = a.serial)
    (hraises : ∀ a, 1 ≤ a.raises ∧ a.raises ≤ 255 → 1 ≤ (g a).raises ∧ (g a).raises ≤ 255)
    (ha : t.alerts = s.alerts.map g) (hn : t.nextSerial = s.nextSerial)
    (ho : t.overflow = s.overflow) : AlertLaw t := by
  have hserials : t.alerts.map (·.serial) = s.alerts.map (·.serial) := by
    rw [ha, List.map_map]
    exact List.map_congr_left fun a _ => (hkeep a).2.2
  have hkeys : (t.alerts.map fun a => (a.kind, a.subject)) =
      s.alerts.map fun a => (a.kind, a.subject) := by
    rw [ha, List.map_map]
    refine List.map_congr_left fun a _ => ?_
    obtain ⟨hk, hs, -⟩ := hkeep a
    simp [hk, hs]
  obtain ⟨h1, h2, h3, h4, h5, h6, h7, h8, h9⟩ := h
  constructor
  · rw [ha, List.length_map]; exact h1
  · rw [hkeys]; exact h2
  · rw [hserials]; exact h3
  · rw [ha]
    intro b hb
    obtain ⟨a, hm, rfl⟩ := List.mem_map.mp hb
    rw [(hkeep a).2.2]; exact h4 a hm
  · rw [ha]
    intro b hb
    obtain ⟨a, hm, rfl⟩ := List.mem_map.mp hb
    exact hraises a (h5 a hm)
  · rw [ha]
    intro b hb
    obtain ⟨a, hm, rfl⟩ := List.mem_map.mp hb
    rw [(hkeep a).1, (hkeep a).2.1]; exact h6 a hm
  · rw [hserials, hn]; exact h7
  · rw [hn]; exact h8
  · rw [ho, ha]
    intro hover
    simpa using h9 hover

theorem Alert.matches_iff {r : Raise} {a : Alert} :
    a.matches r = true ↔ (a.kind, a.subject) = (r.kind, r.subject) := by
  simp [Alert.matches]

/-- A new record at the tail of a list with room and without a record of its kind and subject (R149). -/
theorem AlertLaw.createAlert {s : State} (h : AlertLaw s) {r : Raise} {room : List Alert}
    (hsub : room.Sublist s.alerts) (hlen : room.length < 64)
    (hnew : ∀ a ∈ room, a.matches r = false)
    (hr : r.kind = .common ↔ ∃ c, r.subject = .cohort c) : AlertLaw (s.createAlert r room) := by
  have halerts : (s.createAlert r room).alerts = room ++ [r.record s.nextSerial] := rfl
  have hnext : (s.createAlert r room).nextSerial =
    advanceId ((room ++ [r.record s.nextSerial]).map (·.serial)) s.nextSerial := rfl
  have mem : ∀ {a}, a ∈ (s.createAlert r room).alerts → a ∈ s.alerts ∨ a = r.record s.nextSerial :=
    fun ha => (List.mem_append.mp (halerts ▸ ha)).imp (hsub.subset ·) List.mem_singleton.mp
  obtain ⟨h1, h2, h3, h4, h5, h6, h7, h8, -⟩ := h
  constructor
  · rw [halerts, List.length_append]; exact hlen
  · rw [halerts, List.map_append]
    refine List.Nodup.append (h2.sublist (hsub.map _)) (List.nodup_singleton _) fun k hk hk' => ?_
    obtain ⟨a, ha, rfl⟩ := List.mem_map.mp hk
    have := Alert.matches_iff.mpr (List.mem_singleton.mp hk')
    rw [hnew a ha] at this; cases this
  · rw [halerts, List.map_append]
    refine List.Nodup.append (h3.sublist (hsub.map _)) (List.nodup_singleton _) fun n hn hn' => ?_
    rw [List.mem_singleton.mp hn'] at hn
    exact h7 ((hsub.map _).subset hn)
  · exact fun a ha => (mem ha).elim (h4 a) fun he => he ▸ h8
  · exact fun a ha => (mem ha).elim (h5 a) fun he => he ▸ ⟨le_rfl, (by decide : 1 ≤ 255)⟩
  · exact fun a ha => (mem ha).elim (h6 a) fun he => he ▸ hr
  · rw [hnext, halerts]
    refine advanceId_not_mem ?_ _
    rw [List.length_map, List.length_append, List.length_singleton]; omega
  · rw [hnext]; exact advanceId_range _ _
  · rw [halerts]; simp

theorem AlertLaw.raise {s : State} (h : AlertLaw s) {r : Raise}
    (hr : r.kind = .common ↔ ∃ c, r.subject = .cohort c) : AlertLaw (s.raise r) := by
  unfold State.raise
  split
  · refine h.update (fun a => if a.matches r then a.update r else a) (fun a => ?_) (fun a ha => ?_)
      rfl rfl rfl
    · split <;> exact ⟨rfl, rfl, rfl⟩
    · split
      · exact ⟨le_min (by decide) (Nat.le_add_left ..), min_le_left ..⟩
      · exact ha
  · rename_i hany
    have hnew : ∀ a ∈ s.alerts, a.matches r = false := by simpa using hany
    split
    · exact h.createAlert (List.Sublist.refl _) ‹_› hnew hr
    · rename_i hfull
      have h64 : ¬ s.alerts.length < 64 := hfull
      split
      · rename_i hlower
        obtain ⟨a, ha, hlt⟩ := List.any_eq_true.mp hlower
        have hsub := List.eraseP_sublist (l := s.alerts)
          (p := fun a => decide (a.kind.severity < r.kind.severity))
        refine h.createAlert hsub ?_ (fun b hb => hnew b (hsub.subset hb)) hr
        have hlen := List.length_eraseP_of_mem (p := fun a => decide (a.kind.severity < r.kind.severity))
          ha hlt
        have := h.records
        omega
      · obtain ⟨h1, h2, h3, h4, h5, h6, h7, h8, -⟩ := h
        refine ⟨h1, h2, h3, h4, h5, h6, h7, h8, fun _ hnil => ?_⟩
        have hnil' : s.alerts = [] := hnil
        rw [hnil'] at h64
        exact h64 (by decide)

theorem AlertLaw.change {s u : State} (h : TableChange s u) (hs : AlertLaw s) : AlertLaw u := by
  cases h with
  | retire i =>
    rw [State.retire_eq]; exact hs.filter _ rfl rfl rfl
  | dissolve c x =>
    obtain ⟨_, h⟩ := s.dissolve_frame c x.members
    rw [h]; exact hs.filter _ rfl rfl rfl
  | dropAlerts p => exact hs.filter p rfl rfl rfl
  | raise r _ hr => exact hs.raise hr
  | formCohort | advance | startRebuild | startDay | resetUnit =>
    exact hs.congr (by simp) (by simp) (by simp)
  | _ => exact hs.congr rfl rfl rfl

/-- The laws of the alert list are kept by every step (R146, R147, R151). -/
theorem AlertLaw.step {s t : State} (hs : AlertLaw s) (e : step s = .next t) : AlertLaw t :=
  step_keeps (fun _ _ => AlertLaw.reset.congr rfl rfl rfl) (fun _ _ => AlertLaw.change)
    (fun _ _ m h => h.congr m.tables.alerts m.tables.nextSerial m.tables.overflow) hs e

/-! ### The law of the links under a change of the tables -/

/-- A port that owes one pulse more keeps its law (R157). -/
theorem PortLaw.owe {s t : State} {p : Port} {k : AlertKind} (h : PortLaw s p)
    (hp : t.port p = (s.port p).owe k) (hr : t.reservedPlaces p = s.reservedPlaces p) :
    PortLaw t p := by
  unfold PortState.owe at hp
  split at hp
  · rename_i hc
    obtain ⟨h1, h2, h3, h4, h5, h6, h7⟩ := h
    constructor <;> rw [hp]
    · exact h1
    · rw [hr]; exact h2
    · exact h3
    · exact min_le_left ..
    · exact fun hne => absurd hc.1 hne
    · exact fun _ => lt_min (by decide) (Nat.succ_pos _)
    · exact h7
  · exact h.of_port_eq hp hr

theorem LinkLaw.owePulses {s : State} (h : LinkLaw s) (hr : s.resetAsserted = false)
    (k : AlertKind) : LinkLaw (s.owePulses k) where
  port p := (h.port p).owe (s.owePulses_port k p) rfl
  allowance := h.allowance
  credit := h.credit
  served hx hn p := by
    have hkeep : ((s.owePulses k).port p).commands = (s.port p).commands ∧
        ((s.owePulses k).port p).responses = (s.port p).responses := by
      rw [State.owePulses_port]
      unfold PortState.owe
      split <;> exact ⟨rfl, rfl⟩
    have := h.served hx hn p
    rw [← Bool.not_eq_true, eligible_iff] at this ⊢
    rw [hkeep.1, hkeep.2]
    exact this
  resetExecutor hn := absurd (hr.symm.trans hn) (by decide)
  resetPort hn := absurd (hr.symm.trans hn) (by decide)

theorem LinkLaw.raise {s : State} (h : LinkLaw s) (hr : s.resetAsserted = false) (r : Raise) :
    LinkLaw (s.raise r) := by
  have pulses : ∀ list serial, LinkLaw
      (({ s with alerts := list, nextSerial := serial } : State).owePulses r.kind) := fun _ _ => by
    refine LinkLaw.owePulses ?_ ?_ _
    · exact h.congr rfl rfl rfl rfl rfl
    · exact hr
  unfold State.raise
  split
  · exact pulses _ s.nextSerial
  · split
    · exact pulses _ _
    · split
      · exact pulses _ _
      · exact h.congr rfl rfl rfl rfl rfl

/-- CONFIGURE sets allowances in range and full credits (R166, R180). -/
theorem LinkLaw.configure {s : State} (h : LinkLaw s) {p : List Byte}
    (hp : configureValuesOk p = true) : LinkLaw (s.configure p) where
  port q := (h.port q).of_port_eq rfl rfl
  allowance q := by
    simp only [configureValuesOk, Bool.and_eq_true, decide_eq_true_eq] at hp
    obtain ⟨⟨⟨⟨⟨⟨⟨-, -⟩, -⟩, ha⟩, hb⟩, hc⟩, -⟩, -⟩ := hp
    cases q
    · exact ha
    · exact hb
    · exact hc
  credit q := le_rfl
  served := h.served
  resetExecutor := h.resetExecutor
  resetPort := h.resetPort

/-- ATTENTION SET leaves no pulse owed (R158). -/
theorem LinkLaw.attention {s : State} (h : LinkLaw s) (p : Port) (m : AttentionMode) {t : Nat}
    (h1 : 1 ≤ t) (h3 : t ≤ 3) : LinkLaw (s.setPort p
      { s.port p with mode := m, threshold := t, owed := 0, pulsing := false }) := by
  refine h.setPort ?_ rfl rfl fun hn => ⟨rfl, rfl, (h.resetPort hn p).2.2.2.2⟩
  obtain ⟨g1, g2, -, -, -, -, g7⟩ := h.port p
  constructor <;> rw [State.port_setPort_self]
  · exact g1
  · exact g2
  · exact ⟨h1, h3⟩
  · exact Nat.zero_le _
  · exact fun _ => ⟨rfl, rfl⟩
  · intro hp; cases hp
  · exact g7

theorem LinkLaw.change {s u : State} (h : TableChange s u) (hs : LinkLaw s) : LinkLaw u := by
  cases h with
  | configure p _ hp => exact hs.configure hp
  | attention p m t h1 h3 => exact hs.attention p m h1 h3
  | raise r hr _ => exact hs.raise hr r
  | retire | formCohort | dissolve | advance | startRebuild | startDay | resetUnit =>
    exact hs.congr (by simp) (by simp) (by simp) (by simp) (by simp)
  | _ => exact hs.congr rfl rfl rfl rfl rfl

/-- The laws of ports, arbiter and executor are kept by every step (R115, R157, R164, R166, R167). -/
theorem LinkLaw.step {s t : State} (hs : LinkLaw s) (e : step s = .next t) : LinkLaw t :=
  step_keeps (fun _ _ => LinkLaw.reset.congr rfl rfl rfl rfl rfl) (fun _ _ => LinkLaw.change)
    (fun _ _ m h => m.law h) hs e

end Sys2Proof.Machine

namespace Sys2Proof.Machine

/-! ### What an edit of a lane leaves alone -/

theorem Lane.assign_eq (code : Nat) (l : Lane) : ∃ pending offsets, (l.assign code).1 =
    { l with pendingLot := pending, pendOffsets := offsets } := by
  unfold Lane.assign
  split
  · exact ⟨_, _, rfl⟩
  · split
    · exact ⟨l.pendingLot, l.pendOffsets, rfl⟩
    · exact ⟨_, _, rfl⟩

theorem Lane.suspend_eq (l : Lane) : ∃ st sf, l.suspend =
    { l with state := st, suspendedFrom := sf } := by
  unfold Lane.suspend
  split
  · exact ⟨l.state, l.suspendedFrom, rfl⟩
  · exact ⟨_, _, rfl⟩

theorem Lane.storeOffsets_eq (code : Nat) (os : List Int) (l : Lane) : ∃ eff pend,
    (l.storeOffsets code os).1 = { l with effOffsets := eff, pendOffsets := pend } := by
  unfold Lane.storeOffsets
  split
  · exact ⟨_, l.pendOffsets, rfl⟩
  · exact ⟨l.effOffsets, _, rfl⟩

theorem Lane.replay_eq (k : Nat) (x : HistoryEntry) (l : Lane) :
    l.replay k x = l ∨ ∃ rs rerun notes v, x.body = .reading rerun notes rs v ∧
      l.replay k x = { l with
        params := List.zipWith (fun o r => o.update k (r.e.getD r.d)) l.params rs } := by
  unfold Lane.replay
  split
  · exact .inl rfl
  · rename_i rs hrs
    unfold Lane.selected at hrs
    split at hrs
    · cases hrs
    · split at hrs
      · cases hrs; exact .inr ⟨_, _, _, _, ‹_›, rfl⟩
      · cases hrs

theorem Lane.settleCountdown_eq (day : Nat) (l : Lane) : ∃ n st, l.settleCountdown day =
    { l with settleRemaining := n, state := st } ∧
      (st = l.state ∨ l.state = .settling ∧ (st = .tracking ∨ st = .settling)) := by
  unfold Lane.settleCountdown
  split
  · rename_i hc
    refine ⟨_, _, rfl, .inr ⟨hc.1, ?_⟩⟩
    split <;> simp
  · exact ⟨l.settleRemaining, l.state, rfl, .inl rfl⟩

theorem Lane.countQuiet_eq (x : Settings) (l : Lane) : ∃ q d st sf, (l.countQuiet x).1 =
    { l with quiet := q, dormancy := d, state := st, suspendedFrom := sf } ∧
      (st = l.state ∧ sf = l.suspendedFrom ∨ st = .suspended ∧ sf = some l.state) := by
  unfold Lane.countQuiet
  split
  · exact ⟨l.quiet, l.dormancy, l.state, l.suspendedFrom, rfl, .inl ⟨rfl, rfl⟩⟩
  · split
    · exact ⟨_, l.dormancy, l.state, l.suspendedFrom, rfl, .inl ⟨rfl, rfl⟩⟩
    · split
      · exact ⟨l.quiet, l.dormancy, l.state, l.suspendedFrom, rfl, .inl ⟨rfl, rfl⟩⟩
      · split
        · exact ⟨l.quiet, _, _, _, rfl, .inr ⟨rfl, rfl⟩⟩
        · exact ⟨l.quiet, _, l.state, l.suspendedFrom, rfl, .inl ⟨rfl, rfl⟩⟩

theorem mem_appendHistory {x y : HistoryEntry} {l : List HistoryEntry}
    (h : y ∈ appendHistory x l) : y = x ∨ y ∈ l := by
  unfold appendHistory at h
  rcases List.mem_append.mp h with h | h
  · split at h
    · exact .inr (List.mem_of_mem_drop h)
    · exact .inr h
  · exact .inl (List.mem_singleton.mp h)

/-! ### Bounds of the comparison (R76) -/

theorem saturate_inRange (x : Int) : InDeviationRange (saturate x) := by
  unfold saturate InDeviationRange Config.maxDeviation; omega

/-- The smoothing update moves S toward 16 e and not past it, so it stays in range (R66, R76). -/
theorem smooth_inRange (k : Nat) {s e : Int} (he : InDeviationRange e) (hs : InSmoothedRange s) :
    InSmoothedRange (smooth k s e) := by
  have hpos : (0 : Int) < 2 ^ k := Int.pow_pos (by decide)
  have key : ∀ d : Int, (0 ≤ d → 0 ≤ d / 2 ^ k ∧ d / 2 ^ k ≤ d) ∧
      (d < 0 → d ≤ d / 2 ^ k ∧ d / 2 ^ k ≤ 0) := by
    intro d
    refine ⟨fun hd => ⟨Int.ediv_nonneg hd hpos.le, Int.ediv_le_self _ hd⟩, fun hd => ⟨?_, ?_⟩⟩
    · rw [Int.le_ediv_iff_mul_le hpos]; nlinarith
    · exact (Int.ediv_neg_of_neg_of_pos hd hpos).le
  obtain ⟨h1, h2⟩ := key (16 * e - s)
  unfold smooth InSmoothedRange at *
  rcases le_or_gt 0 (16 * e - s) with hd | hd
  · have := h1 hd; omega
  · have := h2 hd; omega

theorem stepRun_length (e : Int) (r : Run) : (stepRun e r).length ≤ 255 := by
  unfold stepRun
  split
  · exact Nat.zero_le _
  · split <;> split
    · show 1 ≤ 255; decide
    · exact min_le_left ..
    · show 1 ≤ 255; decide
    · exact min_le_left ..

/-- S and run within their ranges. -/
def ParamState.Bounded (q : ParamState) : Prop := InSmoothedRange q.s ∧ q.run.length ≤ 255

theorem ParamState.Bounded.update {q : ParamState} (h : q.Bounded) (k : Nat) {e : Int}
    (he : InDeviationRange e) : (q.update k e).Bounded :=
  ⟨smooth_inRange k he h.1, stepRun_length ..⟩

theorem ParamState.bounded_fresh : ParamState.fresh.Bounded := by
  constructor <;> decide

/-- Every deviation of a sheet within its range. -/
def Sheet.Bounded (sh : Sheet) : Prop :=
  ∀ i e r, sh.entries.get i = some e → e.result = some r → ∀ d ∈ r.devs, InDeviationRange d

def Cohort.Bounded (x : Cohort) : Prop := ∀ cs, x.centers = some cs → ∀ v ∈ cs, InDeviationRange v

/-- The chart states and the history of a lane within their ranges. -/
structure Lane.Bounded (l : Lane) : Prop where
  charts : ∀ q ∈ l.params, q.Bounded
  histories : ∀ x ∈ l.history, ∀ n notes rs v, x.body = .reading n notes rs v → ∀ r ∈ rs, r.InRange

theorem boundsLaw_iff {s : State} : BoundsLaw s ↔ (∀ k, (s.sheet k).Bounded) ∧
    (∀ c x, s.cohort c = some x → x.Bounded) ∧ ∀ i, (s.lane i).Bounded :=
  ⟨fun h => ⟨h.deviations, fun c x hx cs => h.centers c x cs hx,
      fun i => ⟨h.charts i, h.histories i⟩⟩,
    fun ⟨h1, h2, h3⟩ => ⟨h1, fun c x cs hx => h2 c x hx cs, fun i => (h3 i).charts, fun i => (h3 i).histories⟩⟩

theorem BoundsLaw.congr {s t : State} (h : BoundsLaw s) (hs : t.sheets = s.sheets)
    (hc : t.cohorts = s.cohorts) (hl : t.lanes = s.lanes) : BoundsLaw t := by
  rw [boundsLaw_iff] at h ⊢
  unfold State.sheet State.cohort State.lane at h ⊢
  rw [hs, hc, hl]
  exact h

theorem Sheet.bounded_of_no_entries {st : SheetState} {d : Option Nat} :
    Sheet.Bounded ⟨st, d, Table.fill 128 none⟩ := fun i e r h => by simp at h

theorem Sheet.Bounded.of_entries {sh sh' : Sheet} (h : sh.Bounded) (he : sh'.entries = sh.entries) :
    sh'.Bounded := by
  unfold Sheet.Bounded; rw [he]; exact h

theorem Sheet.Bounded.set {sh : Sheet} (h : sh.Bounded) {i : Slot} {o : Option StripEntry}
    (ho : ∀ e r, o = some e → e.result = some r → ∀ d ∈ r.devs, InDeviationRange d) :
    Sheet.Bounded { sh with entries := sh.entries.set i o } := by
  intro m e r he
  have he' : (sh.entries.set i o).get m = some e := he
  rw [Table.get_set] at he'
  split at he'
  · exact ho e r he'
  · exact h m e r he'

theorem Lane.Bounded.of_eq {l m : Lane} (h : l.Bounded) (hp : m.params = l.params)
    (hh : m.history = l.history) : m.Bounded := by
  refine ⟨?_, ?_⟩
  · rw [hp]; exact h.charts
  · rw [hh]; exact h.histories

theorem Lane.Bounded.of_fresh {l m : Lane} (h : l.Bounded) (hp : ∀ q ∈ m.params, q = .fresh)
    (hh : m.history = l.history) : m.Bounded := by
  refine ⟨fun q hq => ?_, ?_⟩
  · rw [hp q hq]; exact ParamState.bounded_fresh
  · rw [hh]; exact h.histories

theorem Lane.bounded_vacant : Lane.vacant.Bounded :=
  ⟨fun q hq => (by cases hq), fun x hx => (by cases hx)⟩

theorem eq_fresh_of_mem_freshParams {x : Settings} {q : ParamState} (h : q ∈ freshParams x) :
    q = .fresh := List.eq_of_mem_replicate h

/-- The results and chart states of a reading lie in their ranges (R76). -/
theorem applyParams_bounded {x : Settings} {sound tested : Bool} {ps : List PlanEntry}
    {ds : List Int} {es : List (Option Int)} {os : List ParamState}
    (hd : ∀ d ∈ ds, InDeviationRange d) (he : ∀ e, some e ∈ es → InDeviationRange e)
    (ho : ∀ o ∈ os, o.Bounded) :
    ∀ q ∈ applyParams x sound tested ps ds es os, q.1.InRange ∧ q.2.Bounded := by
  induction ps generalizing ds es os with
  | nil => intro q hq; simp [applyParams] at hq
  | cons p ps ih =>
    match ds, es, os with
    | [], _, _ => intro q hq; simp [applyParams] at hq
    | _ :: _, [], _ => intro q hq; simp [applyParams] at hq
    | _ :: _, _ :: _, [] => intro q hq; simp [applyParams] at hq
    | d :: ds, e :: es, o :: os =>
      intro q hq
      rw [applyParams] at hq
      rcases List.mem_cons.mp hq with rfl | hq
      · have hd0 := hd d (List.mem_cons_self ..)
        have he0 : ∀ v, e = some v → InDeviationRange v := fun v hv =>
          he v (hv ▸ List.mem_cons_self ..)
        have hused : InDeviationRange (e.getD d) := by
          cases e with
          | none => exact hd0
          | some v => exact he0 v rfl
        have ho0 := ho o (List.mem_cons_self ..)
        have hnew : (if sound then o.update x.shift (e.getD d) else o).Bounded := by
          split
          · exact ho0.update _ hused
          · exact ho0
        refine ⟨⟨hd0, he0, fun v hv => ?_, hnew.2⟩, hnew⟩
        simp only [applyParam] at hv
        split at hv
        · rename_i hs
          cases hv
          rw [if_pos hs] at hnew
          exact hnew.1
        · cases hv
      · exact ih (fun d' h => hd d' (List.mem_cons_of_mem _ h))
          (fun e' h => he e' (List.mem_cons_of_mem _ h))
          (fun o' h => ho o' (List.mem_cons_of_mem _ h)) q hq

theorem readingResults_bounded {s : State} {day : Nat} {i : Slot} {l : Lane} {x : Settings}
    {r : Deviated} (hd : ∀ d ∈ r.devs, InDeviationRange d) (hl : l.Bounded) :
    ∀ q ∈ s.readingResults day i l x r, q.1.InRange ∧ q.2.Bounded := by
  refine applyParams_bounded hd (fun e he => ?_) hl.charts
  obtain ⟨o, -, ho⟩ := List.mem_map.mp he
  obtain ⟨v, -, rfl⟩ := Option.map_eq_some_iff.mp ho
  exact saturate_inRange v

/-- An edited lane stays within its ranges. -/
theorem LaneEdit.bounded {s : State} {i : Slot} {l : Lane} (h : LaneEdit s i l) (hs : BoundsLaw s) :
    l.Bounded := by
  have hl := (boundsLaw_iff.mp hs).2.2 i
  cases h with
  | assign lot =>
    obtain ⟨_, _, h⟩ := (s.lane i).assign_eq lot.code
    rw [h]; exact hl.of_eq rfl rfl
  | suspend =>
    obtain ⟨_, _, h⟩ := (s.lane i).suspend_eq
    rw [h]; exact hl.of_eq rfl rfl
  | resume st x => exact hl.of_eq rfl rfl
  | reload id x => exact hl.of_eq rfl rfl
  | offsets id lot os =>
    obtain ⟨_, _, h⟩ := (s.lane i).storeOffsets_eq lot.code os
    rw [h]; exact hl.of_eq rfl rfl
  | exclude day flag =>
    refine ⟨hl.charts, fun x hx => ?_⟩
    obtain ⟨y, hy, rfl⟩ := List.mem_map.mp hx
    have := hl.histories y hy
    split <;> exact this
  | replay j k x _ _ hx =>
    rcases (s.lane i).replay_eq k x with h | ⟨rs, rerun, notes, v, hb, h⟩ <;> rw [h]
    · exact hl
    · refine ⟨fun q hq => ?_, hl.histories⟩
      obtain ⟨n, hn, rfl⟩ := List.mem_iff_getElem.mp hq
      have hrange := hl.histories x hx rerun notes rs v hb
      rw [List.getElem_zipWith]
      refine (hl.charts _ (List.getElem_mem _)).update k ?_
      rw [List.length_zipWith] at hn
      obtain ⟨h1, h2, -⟩ := hrange (rs[n]'(by omega)) (List.getElem_mem _)
      cases he : (rs[n]'(by omega)).e with
      | none => exact h1
      | some e => exact h2 e he
  | switchLot day x =>
    refine hl.of_fresh (fun q hq => ?_) rfl
    obtain ⟨_, -, rfl⟩ := List.mem_map.mp hq
    rfl
  | reading day k e r x switched noCenter saturated _ _ he hr =>
    have hrs := readingResults_bounded (s := s) (day := day) (i := i) (x := x)
      (hs.deviations k i e r he hr) hl
    unfold Lane.afterReading
    obtain ⟨_, _, h, -⟩ := Lane.settleCountdown_eq day _
    rw [h]
    refine ⟨fun q hq => ?_, fun y hy n notes rs v hb p hp => ?_⟩
    · obtain ⟨w, hw, rfl⟩ := List.mem_map.mp hq
      exact (hrs w hw).2
    · rcases mem_appendHistory hy with rfl | hy
      · cases hb
        obtain ⟨w, hw, rfl⟩ := List.mem_map.mp hp
        exact (hrs w hw).1
      · exact hl.histories y hy n notes rs v hb p hp
  | missing day lot x withdrawn =>
    obtain ⟨_, _, _, _, h, -⟩ := (s.lane i).countQuiet_eq x
    rw [h]
    refine ⟨hl.charts, fun y hy n notes rs v hb => ?_⟩
    rcases mem_appendHistory hy with rfl | hy
    · cases hb
    · exact hl.histories y hy n notes rs v hb
  | passed day => exact hl.of_eq rfl rfl

/-- A contributor is an eligible entry of the sheet that is recorded in the cohort (R87). -/
theorem mem_contributors {c : CohortId} {x : Cohort} {sh : Sheet} {ds : List Int}
    (h : ds ∈ contributors c x sh) : ∃ i e r, sh.entries.get i = some e ∧ e.result = some r ∧
      r.cohort = some c ∧ r.devs = ds := by
  have of_contribution : ∀ o, contribution c o = some ds → ∃ e r, o = some e ∧
      e.result = some r ∧ r.cohort = some c ∧ r.devs = ds := by
    intro o ho
    unfold contribution at ho
    split at ho
    · cases ho
    · split at ho
      · cases ho
      · split at ho
        · cases ho; exact ⟨_, _, rfl, ‹_›, (‹_ ∧ _›).1, rfl⟩
        · cases ho
  unfold contributors at h
  split at h
  · obtain ⟨o, ho, hc⟩ := List.mem_filterMap.mp h
    obtain ⟨i, rfl⟩ := Table.mem_cells.mp ho
    obtain ⟨e, r, he, hr⟩ := of_contribution _ hc
    exact ⟨i, e, r, he, hr⟩
  · cases h
  · rename_i a _
    obtain ⟨e, r, he, hr⟩ := of_contribution _ (Option.mem_toList.mp h)
    exact ⟨a, e, r, he, hr⟩

/-- A median lies among the values (R88). -/
theorem median_inRange {vs : List Int} {v : Int} (h : median vs = some v)
    (hv : ∀ x ∈ vs, InDeviationRange x) : InDeviationRange v := by
  have hsorted : ∀ {n : Nat} {x : Int}, (sortAscending vs)[n]? = some x → InDeviationRange x :=
    fun hx => hv _ ((sortAscending_perm vs).mem_iff.mp (List.mem_of_getElem? hx))
  unfold median at h
  dsimp only at h
  split at h
  · exact hsorted h
  · split at h
    · rename_i x y hx hy
      cases h
      have h1 := hsorted hx
      have h2 := hsorted hy
      have h3 : ((x + y).tdiv 2).natAbs = (x + y).natAbs / 2 := Int.natAbs_tdiv ..
      unfold InDeviationRange at *
      omega
    · cases h

theorem centersOf_inRange {n : Nat} {ds : List (List Int)} {cs : List Int}
    (h : centersOf n ds = some cs) (hd : ∀ d ∈ ds, ∀ v ∈ d, InDeviationRange v) :
    ∀ c ∈ cs, InDeviationRange c := by
  intro c hc
  have hmem : some c ∈ (List.range n).map (centerOf ds) := by
    rw [allSome_eq_some.mp h]; exact List.mem_map_of_mem hc
  obtain ⟨i, -, hi⟩ := List.mem_map.mp hmem
  unfold centerOf at hi
  split at hi
  · cases hi
  · rename_i vs hvs
    refine median_inRange hi fun v hv => ?_
    have hmem' : some v ∈ ds.map fun d => d[i]? := by
      rw [allSome_eq_some.mp hvs]; exact List.mem_map_of_mem hv
    obtain ⟨d, hdm, hdv⟩ := List.mem_map.mp hmem'
    exact hd d hdm v (List.mem_of_getElem? hdv)

theorem deviateEntry_inRange {day : Nat} {l : Lane} {x : Settings} {lot : LotRecord} {e : StripEntry}
    {r : Deviated} (h : deviateEntry day l x lot e = some r) : ∀ d ∈ r.devs, InDeviationRange d := by
  unfold deviateEntry at h
  obtain ⟨vs, -, rfl⟩ := Option.map_eq_some_iff.mp h
  intro d hd
  obtain ⟨v, -, rfl⟩ := List.mem_map.mp hd
  exact saturate_inRange v

theorem BoundsLaw.setLane {s : State} (h : BoundsLaw s) {i : Slot} {l : Lane} (hl : l.Bounded) :
    BoundsLaw (s.setLane i l) := by
  rw [boundsLaw_iff] at h ⊢
  obtain ⟨h1, h2, h3⟩ := h
  refine ⟨h1, h2, fun m => ?_⟩
  rw [State.lane_setLane]
  split
  · exact hl
  · exact h3 m

theorem BoundsLaw.setCohort {s : State} (h : BoundsLaw s) {c : CohortId} {x : Cohort}
    (hx : x.Bounded) : BoundsLaw (s.setCohort c (some x)) := by
  rw [boundsLaw_iff] at h ⊢
  obtain ⟨h1, h2, h3⟩ := h
  refine ⟨h1, fun d y hy => ?_, h3⟩
  rw [State.cohort_setCohort] at hy
  split at hy
  · cases hy; exact hx
  · exact h2 d y hy

theorem BoundsLaw.setEntry {s : State} (h : BoundsLaw s) (k : SheetNo) (i : Slot) {e : StripEntry}
    (he : ∀ r, e.result = some r → ∀ d ∈ r.devs, InDeviationRange d) :
    BoundsLaw (s.setEntry k i e) := by
  rw [boundsLaw_iff] at h ⊢
  obtain ⟨h1, h2, h3⟩ := h
  refine ⟨fun m => ?_, h2, h3⟩
  rw [sheet_setEntry]
  split
  · exact (h1 k).set fun e' r he' hr => by cases he'; exact he r hr
  · exact h1 m

theorem BoundsLaw.change {s u : State} (h : TableChange s u) (hs : BoundsLaw s) : BoundsLaw u := by
  have hall := boundsLaw_iff.mp hs
  obtain ⟨hsheet, hcohort, hlane⟩ := hall
  cases h with
  | configure p =>
    refine boundsLaw_iff.mpr ⟨fun k => ?_, hcohort, hlane⟩
    rw [configure_sheet]
    split
    · exact Sheet.bounded_of_no_entries
    · split
      · exact Sheet.bounded_of_no_entries
      · exact hsheet k
  | enrol i id f x =>
    have : (Lane.enrolled id f x).Bounded :=
      Lane.bounded_vacant.of_fresh (fun q hq => eq_fresh_of_mem_freshParams hq) rfl
    exact (hs.setLane this).congr rfl rfl rfl
  | retire i =>
    refine boundsLaw_iff.mpr ⟨fun k => ?_, fun c x hx => ?_, fun m => ?_⟩
    · rw [retire_sheet]
      unfold Sheet.without
      split
      · exact (hsheet k).set fun e r he => by cases he
      · exact hsheet k
    · rw [retire_cohort] at hx
      split at hx
      · obtain ⟨y, hy, rfl⟩ := Option.map_eq_some_iff.mp hx
        exact hcohort c y hy
      · exact hcohort c x hx
    · rw [retire_lane]
      split
      · exact Lane.bounded_vacant
      · exact hlane m
  | editLane i l hl => exact hs.setLane (hl.bounded hs)
  | formCohort r =>
    refine boundsLaw_iff.mpr ⟨?_, fun c x hx => ?_, fun m => ?_⟩
    · unfold State.sheet; rw [State.formCohort_sheets]; exact hsheet
    · rw [formCohort_cohort] at hx
      split at hx
      · cases hx; exact fun cs hcs => by cases hcs
      · exact hcohort c x hx
    · rw [formCohort_lane]
      split
      · exact (hlane m).of_eq rfl rfl
      · split
        · exact (hlane m).of_eq rfl rfl
        · exact hlane m
  | dissolve c x =>
    refine boundsLaw_iff.mpr ⟨?_, fun d y hy => ?_, fun m => ?_⟩
    · unfold State.sheet; rw [State.dissolve_sheets]; exact hsheet
    · rw [dissolve_cohort] at hy
      split at hy
      · cases hy
      · exact hcohort d y hy
    · rw [dissolve_lane]
      split
      · exact (hlane m).of_eq rfl rfl
      · exact hlane m
  | center c x set day count k cs hx hset hcs =>
    refine hs.setCohort fun cs' hcs' => ?_
    cases hcs'
    refine centersOf_inRange hcs fun d hd => ?_
    obtain ⟨i, e, r, he, hr, -, rfl⟩ := mem_contributors hd
    exact hs.deviations k i e r he hr
  | noCenter c x day hx =>
    refine hs.setCohort ?_
    unfold Cohort.noCenter
    split
    · exact fun cs hcs => by cases hcs
    · exact hcohort c x hx
  | fileEntry k i day e hk he =>
    exact hs.setEntry k i fun r hr => by rw [he.result] at hr; cases hr
  | deviate k i day e x lot r he _ _ _ hr =>
    exact hs.setEntry k i fun r' hr' => by cases hr'; exact deviateEntry_inRange hr
  | closeDay d k free =>
    refine boundsLaw_iff.mpr ⟨fun m => ?_, hcohort, hlane⟩
    rw [closeDay_sheet]
    split
    · exact Sheet.bounded_of_no_entries
    · split
      · exact (hsheet k).of_entries rfl
      · exact hsheet m
  | endRebuild j i st c r =>
    have hstopped : BoundsLaw (s.setLane i { s.lane i with chart := c }) :=
      hs.setLane ((hlane i).of_eq rfl rfl)
    exact hstopped.congr rfl rfl rfl
  | startRebuild j rest i =>
    refine (hs.setLane ((hlane i).of_fresh (fun q hq => ?_) rfl) :
      BoundsLaw (s.setLane i (s.lane i).startRebuild)).congr (by simp) (by simp) (by simp)
    obtain ⟨_, -, rfl⟩ := List.mem_map.mp hq
    rfl
  | startDay j rest d =>
    refine boundsLaw_iff.mpr ⟨fun k => ?_, fun c x hx => ?_, fun i => ?_⟩
    · rw [startDayJob_sheet]
      unfold Sheet.startDay
      split
      · exact (hsheet k).of_entries rfl
      · exact hsheet k
    · rcases startDayJob_cohort_cases s d c with h | ⟨_, y, -, -, h⟩ <;> rw [h] at hx
      · exact hcohort c x hx
      · cases hx; exact fun cs hcs => by cases hcs
    · rcases startDayJob_lane_cases s d i with h | ⟨f, x, -, -, -, h⟩ <;> rw [h]
      · exact hlane i
      · exact (hlane i).of_fresh (fun q hq => eq_fresh_of_mem_freshParams hq) rfl
  | endDay j rest d =>
    refine boundsLaw_iff.mpr ⟨fun k => ?_, hcohort, hlane⟩
    show ((s.sheets.map (Sheet.endDay d)).get k).Bounded
    rw [Table.get_map]
    unfold Sheet.endDay
    split
    · exact Sheet.bounded_of_no_entries
    · exact hsheet k
  | resetUnit =>
    refine boundsLaw_iff.mpr ⟨fun k => ?_, ?_, fun i => ?_⟩
    · rw [resetUnit_sheet]
      unfold Sheet.warmReset
      split
      · exact (hsheet k).of_entries rfl
      · exact hsheet k
    · unfold State.cohort; rw [State.resetUnit_cohorts]; exact hcohort
    · rw [resetUnit_lane]
      split
      · exact (hlane i).of_eq rfl rfl
      · exact hlane i
  | advance | raise => exact hs.congr (by simp) (by simp) (by simp)
  | _ => exact hs.congr rfl rfl rfl

/-- Every quantity of the comparison stays within its range through every step (R76). -/
theorem BoundsLaw.step {s t : State} (hs : BoundsLaw s) (e : step s = .next t) : BoundsLaw t :=
  step_keeps (fun _ _ => BoundsLaw.reset.congr rfl rfl rfl) (fun _ _ => BoundsLaw.change)
    (fun _ _ m h => h.congr m.tables.sheets m.tables.cohorts m.tables.lanes) hs e

end Sys2Proof.Machine

namespace Sys2Proof.Machine

/-! ### The DAY jobs of a queue -/

/-- A DAY job's day, and whether it waits. -/
def Job.dayMark (j : Job) : Option (Nat × Bool) := j.kind.day?.map fun d => (d, j.state == .queued)

/-- The DAY jobs of a queue in order: the day of each, and whether it waits. The laws of the ring read no
more of the queue. -/
def dayMarks (q : List Job) : List (Nat × Bool) := q.filterMap Job.dayMark

theorem dayMark_of_day {j : Job} {d : Nat} (h : j.kind = .day d) :
    j.dayMark = some (d, j.state == .queued) := by simp [Job.dayMark, h, JobKind.day?]

theorem dayMark_of_rebuild {j : Job} {i : Slot} (h : j.kind = .rebuild i) : j.dayMark = none := by
  simp [Job.dayMark, h, JobKind.day?]

theorem mem_dayMarks {q : List Job} {d : Nat} {b : Bool} :
    (d, b) ∈ dayMarks q ↔ ∃ j ∈ q, j.kind = .day d ∧ (j.state == .queued) = b := by
  simp only [dayMarks, List.mem_filterMap, Job.dayMark, Option.map_eq_some_iff, Prod.mk.injEq,
    JobKind.day?_eq_some]
  constructor
  · rintro ⟨j, hj, d', hk, rfl, hb⟩
    exact ⟨j, hj, hk, hb⟩
  · rintro ⟨j, hj, hk, hb⟩
    exact ⟨j, hj, d, hk, rfl, hb⟩

theorem queued_iff_mem_dayMarks {q : List Job} {d : Nat} :
    (∃ j ∈ q, j.kind = .day d ∧ j.state = .queued) ↔ (d, true) ∈ dayMarks q := by
  simp [mem_dayMarks]

theorem running_iff_mem_dayMarks {q : List Job} {d : Nat} :
    (∃ j ∈ q, j.kind = .day d ∧ j.state ≠ .queued) ↔ (d, false) ∈ dayMarks q := by
  simp [mem_dayMarks]

theorem days_eq_dayMarks (q : List Job) :
    (q.filterMap fun j => j.kind.day?) = (dayMarks q).map Prod.fst := by
  rw [dayMarks, List.map_filterMap]
  refine List.filterMap_congr fun j _ => ?_
  unfold Job.dayMark
  cases j.kind.day? <;> rfl

theorem no_days_iff_dayMarks {q : List Job} :
    (∀ j ∈ q, j.kind.day? = none) ↔ dayMarks q = [] := by
  simp [dayMarks, Job.dayMark, List.filterMap_eq_nil_iff]

theorem dayMarks_append (p q : List Job) : dayMarks (p ++ q) = dayMarks p ++ dayMarks q :=
  List.filterMap_append ..

theorem dayMarks_cons_of_day {j : Job} {d : Nat} (q : List Job) (h : j.kind = .day d) :
    dayMarks (j :: q) = (d, j.state == .queued) :: dayMarks q := by
  simp [dayMarks, dayMark_of_day h]

theorem dayMarks_cons_of_rebuild {j : Job} {i : Slot} (q : List Job) (h : j.kind = .rebuild i) :
    dayMarks (j :: q) = dayMarks q := by
  simp [dayMarks, dayMark_of_rebuild h]

/-! ### The law of the sheet ring (R39, R40, R42, R96) -/

theorem RingLaw.closing_iff {s : State} (h : RingLaw s) (d : Nat) :
    (∃ k, (s.sheet k).state = .closing ∧ (s.sheet k).day = some d) ↔ (d, true) ∈ dayMarks s.queue :=
  (h.closingQueued d).trans queued_iff_mem_dayMarks

theorem RingLaw.evaluating_iff {s : State} (h : RingLaw s) (d : Nat) :
    (∃ k, (s.sheet k).state = .evaluating ∧ (s.sheet k).day = some d) ↔
      (d, false) ∈ dayMarks s.queue :=
  (h.evaluatingRuns d).trans running_iff_mem_dayMarks

theorem RingLaw.marksIncrease {s : State} (h : RingLaw s) :
    ((dayMarks s.queue).map Prod.fst).Pairwise (· < ·) := by
  rw [← days_eq_dayMarks]; exact h.daysIncrease

/-- Counting records of a table by a test that two tables agree on. -/
theorem Table.countP_congr {α : Type} {n : Nat} {p q : α → Bool} {t u : Table α n}
    (h : ∀ i, p (t.get i) = q (u.get i)) : t.cells.countP p = u.cells.countP q := by
  have hmap : t.cells.map p = u.cells.map q :=
    List.ext_getElem (by simp [t.size, u.size]) fun i h1 h2 => by
      simp only [List.length_map] at h1
      simpa [Table.get] using h ⟨i, t.size ▸ h1⟩
  have hcount := congrArg (List.countP id) hmap
  simpa [List.countP_map, Function.comp_def] using hcount

theorem Sheet.closed_iff {sh : Sheet} :
    sh.closed = true ↔ sh.state = .closing ∨ sh.state = .evaluating := by
  simp [Sheet.closed]

/-- The law of the ring, from the states and days of the sheets and the DAY jobs of the queue. -/
theorem RingLaw.of_marks {s t : State} (h : RingLaw s)
    (hconf : t.config.configured = s.config.configured) (hopen : t.openDay = s.openDay)
    (hstate : ∀ k, (t.sheet k).state = (s.sheet k).state)
    (hday : ∀ k, (t.sheet k).day = (s.sheet k).day)
    (hblank : ∀ k, s.sheet k = .blank → t.sheet k = .blank)
    (hmarks : dayMarks t.queue = dayMarks s.queue) : RingLaw t where
  unconfigured hc := hopen.trans (h.unconfigured (hconf.symm.trans hc))
  closedUntilConfigured ho := by
    obtain ⟨h1, h2, h3⟩ := h.closedUntilConfigured (hopen.symm.trans ho)
    exact ⟨hconf.trans h1, fun k => hblank k (h2 k),
      no_days_iff_dayMarks.mpr (hmarks.trans (no_days_iff_dayMarks.mp h3))⟩
  freeIsBlank k hk := hblank k (h.freeIsBlank k ((hstate k).symm.trans hk))
  dayRange d hd := h.dayRange d (hopen.symm.trans hd)
  openSheets d hd k := by
    rw [hstate, hday]; exact h.openSheets d (hopen.symm.trans hd) k
  openPresent d hd := by
    simp only [hstate, hday]; exact h.openPresent d (hopen.symm.trans hd)
  closedBelow d hd k := by
    rw [Sheet.closed_iff, hstate, hday, ← Sheet.closed_iff]
    exact h.closedBelow d (hopen.symm.trans hd) k
  daysDistinct k m := by rw [hstate, hday, hday]; exact h.daysDistinct k m
  closedAtMostTwo := by
    have : t.sheets.cells.countP Sheet.closed = s.sheets.cells.countP Sheet.closed :=
      Table.countP_congr fun k => by
        have := hstate k
        unfold State.sheet at this
        simp only [Sheet.closed, this]
    rw [this]; exact h.closedAtMostTwo
  closingQueued d := by
    rw [queued_iff_mem_dayMarks, hmarks]
    simp only [hstate, hday]
    exact h.closing_iff d
  evaluatingRuns d := by
    rw [running_iff_mem_dayMarks, hmarks]
    simp only [hstate, hday]
    exact h.evaluating_iff d
  daysIncrease := by rw [days_eq_dayMarks, hmarks]; exact h.marksIncrease

theorem RingLaw.congr {s t : State} (h : RingLaw s)
    (hc : t.config.configured = s.config.configured) (ho : t.openDay = s.openDay)
    (hs : t.sheets = s.sheets) (hq : t.queue = s.queue) : RingLaw t := by
  have hsheet : ∀ k, t.sheet k = s.sheet k := fun k => by unfold State.sheet; rw [hs]
  refine h.of_marks hc ho ?_ ?_ ?_ (by rw [hq]) <;> intro k <;> rw [hsheet]
  exact id

/-- The queue loses, gains or changes no DAY job. -/
theorem RingLaw.of_queue {s t : State} (h : RingLaw s)
    (hc : t.config.configured = s.config.configured) (ho : t.openDay = s.openDay)
    (hs : t.sheets = s.sheets) (hq : dayMarks t.queue = dayMarks s.queue) : RingLaw t := by
  have hsheet : ∀ k, t.sheet k = s.sheet k := fun k => by unfold State.sheet; rw [hs]
  refine h.of_marks hc ho ?_ ?_ ?_ hq <;> intro k <;> rw [hsheet]
  exact id

/-- Every sheet that is not FREE has a day, at most D + 1 (R39, R40). -/
theorem RingLaw.day_of_live {s : State} (h : RingLaw s) {k : SheetNo}
    (hk : (s.sheet k).state ≠ .free) : ∃ d n, s.openDay = some d ∧ (s.sheet k).day = some n ∧
      n ≤ d + 1 := by
  cases ho : s.openDay with
  | none =>
    have := (h.closedUntilConfigured ho).2.1 k
    rw [this] at hk; exact absurd rfl hk
  | some d =>
    cases hst : (s.sheet k).state with
    | free => exact absurd hst hk
    | opened =>
      rcases h.openSheets d ho k hst with hd | hd
      · exact ⟨d, d, rfl, hd, by omega⟩
      · exact ⟨d, d + 1, rfl, hd, le_rfl⟩
    | closing =>
      obtain ⟨n, hn, hlt⟩ := h.closedBelow d ho k (by simp [Sheet.closed, hst])
      exact ⟨d, n, rfl, hn, by omega⟩
    | evaluating =>
      obtain ⟨n, hn, hlt⟩ := h.closedBelow d ho k (by simp [Sheet.closed, hst])
      exact ⟨d, n, rfl, hn, by omega⟩

theorem RingLaw.day_of_free {s : State} (h : RingLaw s) {k : SheetNo}
    (hk : (s.sheet k).state = .free) : (s.sheet k).day = none := by
  rw [h.freeIsBlank k hk]; rfl

/-- A DAY job's day has been closed. -/
theorem RingLaw.mark_lt {s : State} (h : RingLaw s) {d n : Nat} {b : Bool} (ho : s.openDay = some d)
    (hm : (n, b) ∈ dayMarks s.queue) : n < d := by
  have : ∃ k, (s.sheet k).closed = true ∧ (s.sheet k).day = some n := by
    cases b with
    | true =>
      obtain ⟨k, hk, hd⟩ := (h.closing_iff n).mpr hm
      exact ⟨k, by simp [Sheet.closed, hk], hd⟩
    | false =>
      obtain ⟨k, hk, hd⟩ := (h.evaluating_iff n).mpr hm
      exact ⟨k, by simp [Sheet.closed, hk], hd⟩
  obtain ⟨k, hk, hd⟩ := this
  obtain ⟨m, hm', hlt⟩ := h.closedBelow d ho k hk
  rw [hd] at hm'; cases hm'; exact hlt

/-- The head DAY job is of an earlier day than every other. -/
theorem RingLaw.not_mem_of_head {s : State} (h : RingLaw s) {d : Nat} {b : Bool}
    {rest : List (Nat × Bool)} (hq : dayMarks s.queue = (d, b) :: rest) (b' : Bool) :
    (d, b') ∉ rest := by
  intro hm
  have hp := h.marksIncrease
  rw [hq, List.map_cons, List.pairwise_cons] at hp
  exact absurd (hp.1 d (List.mem_map_of_mem hm)) (lt_irrefl d)

/-! ### The ring at each change of its sheets or of its DAY jobs -/

theorem Sheet.startDay_day (d : Nat) (sh : Sheet) : (sh.startDay d).day = sh.day := by
  unfold Sheet.startDay; split <;> rfl

theorem Sheet.startDay_state (d : Nat) (sh : Sheet) : (sh.startDay d).state =
    if sh.state = .closing ∧ sh.day = some d then .evaluating else sh.state := by
  unfold Sheet.startDay; split <;> rfl

theorem Sheet.startDay_closed (d : Nat) (sh : Sheet) : (sh.startDay d).closed = sh.closed := by
  unfold Sheet.startDay
  split
  · rename_i hc; simp [Sheet.closed, hc.1]
  · rfl

theorem Sheet.startDay_of_not_closing {d : Nat} {sh : Sheet} (h : sh.state ≠ .closing) :
    sh.startDay d = sh := by simp [Sheet.startDay, h]

/-- The head DAY job starts: its CLOSING sheet is EVALUATING (R42, R102). -/
theorem RingLaw.startDay {s t : State} (h : RingLaw s) {d : Nat} {rest : List (Nat × Bool)}
    (hq : dayMarks s.queue = (d, true) :: rest)
    (hconf : t.config.configured = s.config.configured) (hopen : t.openDay = s.openDay)
    (hsheet : ∀ k, t.sheet k = (s.sheet k).startDay d)
    (htq : dayMarks t.queue = (d, false) :: rest) : RingLaw t := by
  have hday : ∀ k, (t.sheet k).day = (s.sheet k).day := fun k => by
    rw [hsheet, Sheet.startDay_day]
  have hstate : ∀ k, (t.sheet k).state =
      if (s.sheet k).state = .closing ∧ (s.sheet k).day = some d then .evaluating
      else (s.sheet k).state := fun k => by rw [hsheet, Sheet.startDay_state]
  have hopened : ∀ k, (t.sheet k).state = .opened ↔ (s.sheet k).state = .opened := fun k => by
    rw [hstate]; split <;> simp_all
  have hfree : ∀ k, (t.sheet k).state = .free ↔ (s.sheet k).state = .free := fun k => by
    rw [hstate]; split <;> simp_all
  refine ⟨fun hc => hopen.trans (h.unconfigured (hconf.symm.trans hc)), fun ho => ?_, fun k hk => ?_,
    fun d' hd' => h.dayRange d' (hopen.symm.trans hd'), fun d' hd' k => ?_, fun d' hd' => ?_,
    fun d' hd' k => ?_, fun k m hk => ?_, ?_, fun d' => ?_, fun d' => ?_, ?_⟩
  · have := (h.closedUntilConfigured (hopen.symm.trans ho)).2.2
    rw [no_days_iff_dayMarks, hq] at this; cases this
  · have hk' := (hfree k).mp hk
    rw [hsheet, Sheet.startDay_of_not_closing (by simp [hk'])]
    exact h.freeIsBlank k hk'
  · rw [hopened, hday]; exact h.openSheets d' (hopen.symm.trans hd') k
  · simp only [hopened, hday]; exact h.openPresent d' (hopen.symm.trans hd')
  · rw [hsheet, Sheet.startDay_closed, Sheet.startDay_day]
    exact h.closedBelow d' (hopen.symm.trans hd') k
  · rw [hday, hday]; exact h.daysDistinct k m (mt (hfree k).mpr hk)
  · have : t.sheets.cells.countP Sheet.closed = s.sheets.cells.countP Sheet.closed :=
      Table.countP_congr fun k => by
        show (t.sheet k).closed = (s.sheet k).closed
        rw [hsheet, Sheet.startDay_closed]
    rw [this]; exact h.closedAtMostTwo
  · rw [queued_iff_mem_dayMarks, htq]
    constructor
    · rintro ⟨k, hk, hd'⟩
      rw [hday] at hd'
      rw [hstate] at hk
      split at hk
      · cases hk
      · rename_i hno
        have hm := (h.closing_iff d').mp ⟨k, hk, hd'⟩
        rw [hq] at hm
        rcases List.mem_cons.mp hm with he | hm
        · cases he; exact absurd ⟨hk, hd'⟩ hno
        · exact List.mem_cons_of_mem _ hm
    · intro hm
      have hm' : (d', true) ∈ rest := by simpa using hm
      obtain ⟨k, hk, hd'⟩ := (h.closing_iff d').mpr (hq ▸ List.mem_cons_of_mem _ hm')
      refine ⟨k, ?_, by rw [hday, hd']⟩
      rw [hstate, if_neg, hk]
      rintro ⟨-, hd''⟩
      rw [hd'] at hd''; cases hd''
      exact h.not_mem_of_head hq true hm'
  · rw [running_iff_mem_dayMarks, htq]
    constructor
    · rintro ⟨k, hk, hd'⟩
      rw [hday] at hd'
      rw [hstate] at hk
      split at hk
      · rename_i hc
        rw [hd'] at hc; cases hc.2
        exact List.mem_cons_self ..
      · have hm := (h.evaluating_iff d').mp ⟨k, hk, hd'⟩
        rw [hq] at hm
        exact List.mem_cons_of_mem _ (by simpa using hm)
    · intro hm
      rcases List.mem_cons.mp hm with he | hm
      · cases he
        obtain ⟨k, hk, hd'⟩ := (h.closing_iff d).mpr (hq ▸ List.mem_cons_self ..)
        exact ⟨k, by rw [hstate, if_pos ⟨hk, hd'⟩], by rw [hday, hd']⟩
      · obtain ⟨k, hk, hd'⟩ := (h.evaluating_iff d').mpr (hq ▸ List.mem_cons_of_mem _ hm)
        exact ⟨k, by rw [hstate, if_neg (by simp [hk]), hk], by rw [hday, hd']⟩
  · have hp := h.marksIncrease
    rw [hq] at hp
    rw [days_eq_dayMarks, htq]
    exact hp

theorem Sheet.endDay_cases (d : Nat) (sh : Sheet) :
    (sh.endDay d = sh ∧ ¬ (sh.state = .evaluating ∧ sh.day = some d)) ∨
      sh.endDay d = .blank ∧ sh.state = .evaluating ∧ sh.day = some d := by
  unfold Sheet.endDay
  split
  · exact .inr ⟨rfl, ‹_›⟩
  · exact .inl ⟨rfl, ‹_›⟩

/-- The running DAY job ends: its sheet is FREE (R42, R107). -/
theorem RingLaw.endDay {s t : State} (h : RingLaw s) {d : Nat} {rest : List (Nat × Bool)}
    (hq : dayMarks s.queue = (d, false) :: rest)
    (hconf : t.config.configured = s.config.configured) (hopen : t.openDay = s.openDay)
    (hsheet : ∀ k, t.sheet k = (s.sheet k).endDay d) (htq : dayMarks t.queue = rest) : RingLaw t := by
  have hlive : ∀ k, (t.sheet k).state ≠ .free → t.sheet k = s.sheet k := fun k hk => by
    rw [hsheet] at hk ⊢
    rcases (s.sheet k).endDay_cases d with ⟨h, -⟩ | ⟨h, -⟩
    · exact h
    · rw [h] at hk; exact absurd rfl hk
  have hkept : ∀ k, ¬ ((s.sheet k).state = .evaluating ∧ (s.sheet k).day = some d) →
      t.sheet k = s.sheet k := fun k hk => by
    rw [hsheet]
    rcases (s.sheet k).endDay_cases d with ⟨h, -⟩ | ⟨-, h⟩
    · exact h
    · exact absurd h hk
  refine ⟨fun hc => hopen.trans (h.unconfigured (hconf.symm.trans hc)), fun ho => ?_, fun k hk => ?_,
    fun d' hd' => h.dayRange d' (hopen.symm.trans hd'), fun d' hd' k hk => ?_, fun d' hd' => ?_,
    fun d' hd' k hk => ?_, fun k m hk hkm => ?_, ?_, fun d' => ?_, fun d' => ?_, ?_⟩
  · have := (h.closedUntilConfigured (hopen.symm.trans ho)).2.2
    rw [no_days_iff_dayMarks, hq] at this; cases this
  · rw [hsheet] at hk ⊢
    rcases (s.sheet k).endDay_cases d with ⟨he, -⟩ | ⟨he, -⟩
    · rw [he] at hk ⊢; exact h.freeIsBlank k hk
    · exact he
  · have he := hlive k (by simp [hk])
    rw [he] at hk ⊢
    exact h.openSheets d' (hopen.symm.trans hd') k hk
  · obtain ⟨⟨k, hk, hkd⟩, m, hm, hmd⟩ := h.openPresent d' (hopen.symm.trans hd')
    refine ⟨⟨k, ?_⟩, m, ?_⟩
    · rw [hkept k (by simp [hk])]; exact ⟨hk, hkd⟩
    · rw [hkept m (by simp [hm])]; exact ⟨hm, hmd⟩
  · have he := hlive k (by rw [Sheet.closed_iff] at hk; rcases hk with hk | hk <;> simp [hk])
    rw [he] at hk ⊢
    exact h.closedBelow d' (hopen.symm.trans hd') k hk
  · have he := hlive k hk
    rw [he] at hk hkm
    rcases (s.sheet m).endDay_cases d with ⟨hm, -⟩ | ⟨hm, -⟩
    · rw [hsheet m, hm] at hkm; exact h.daysDistinct k m hk hkm
    · obtain ⟨_, n, -, hn, -⟩ := h.day_of_live hk
      rw [hsheet m, hm, hn] at hkm; cases hkm
  · refine le_trans ?_ h.closedAtMostTwo
    have hcells : t.sheets = s.sheets.map (Sheet.endDay d) :=
      Table.ext_get fun k => by rw [Table.get_map]; exact hsheet k
    rw [hcells, Table.cells_map, List.countP_map]
    refine List.countP_mono_left fun sh _ hc => ?_
    rcases sh.endDay_cases d with ⟨he, -⟩ | ⟨he, -⟩
    · rw [Function.comp_apply, he] at hc; exact hc
    · rw [Function.comp_apply, he] at hc; cases hc
  · rw [queued_iff_mem_dayMarks, htq]
    constructor
    · rintro ⟨k, hk, hd'⟩
      have he := hlive k (by simp [hk])
      rw [he] at hk hd'
      have hm := (h.closing_iff d').mp ⟨k, hk, hd'⟩
      rw [hq] at hm
      simpa using hm
    · intro hm
      obtain ⟨k, hk, hd'⟩ := (h.closing_iff d').mpr (hq ▸ List.mem_cons_of_mem _ hm)
      exact ⟨k, by rw [hkept k (by simp [hk])]; exact ⟨hk, hd'⟩⟩
  · rw [running_iff_mem_dayMarks, htq]
    constructor
    · rintro ⟨k, hk, hd'⟩
      have he := hlive k (by simp [hk])
      rcases (s.sheet k).endDay_cases d with ⟨-, hno⟩ | ⟨hb, -⟩
      · rw [he] at hk hd'
        have hm := (h.evaluating_iff d').mp ⟨k, hk, hd'⟩
        rw [hq] at hm
        rcases List.mem_cons.mp hm with heq | hm
        · cases heq; exact absurd ⟨hk, hd'⟩ hno
        · exact hm
      · rw [hsheet, hb] at hk; cases hk
    · intro hm
      obtain ⟨k, hk, hd'⟩ := (h.evaluating_iff d').mpr (hq ▸ List.mem_cons_of_mem _ hm)
      refine ⟨k, ?_⟩
      rw [hkept k]
      · exact ⟨hk, hd'⟩
      · rintro ⟨-, hd''⟩
        rw [hd'] at hd''; cases hd''
        exact h.not_mem_of_head hq false hm
  · have hp := h.marksIncrease
    rw [hq, List.map_cons, List.pairwise_cons] at hp
    rw [days_eq_dayMarks, htq]
    exact hp.2

end Sys2Proof.Machine

namespace Sys2Proof.Machine

theorem openSheet_eq_some {s : State} {d : Nat} {k : SheetNo} (h : s.openSheet d = some k) :
    (s.sheet k).state = .opened ∧ (s.sheet k).day = some d := by
  obtain ⟨hk, -⟩ := Table.find_eq_some.mp h
  simpa [State.sheet] using hk

theorem freeSheet_eq_some {s : State} {k : SheetNo} (h : s.freeSheet = some k) :
    (s.sheet k).state = .free := by
  obtain ⟨hk, -⟩ := Table.find_eq_some.mp h
  simpa [State.sheet] using hk

/-- Counting the records of a table is counting their numbers. -/
theorem Table.countP_eq_card {α : Type} {n : Nat} (p : α → Bool) (t : Table α n) :
    t.cells.countP p = (Finset.univ.filter fun i => p (t.get i) = true).card := by
  have hcells : t.cells = (List.finRange n).map t.get :=
    List.ext_getElem (by simp [t.size]) fun i h1 h2 => by simp [Table.get]
  rw [hcells, List.countP_map, List.countP_eq_length_filter]
  rw [← List.toFinset_card_of_nodup ((List.nodup_finRange n).filter _)]
  congr 1
  ext i
  simp

/-! ### The ring at CLOSE DAY (R53) -/

/-- The sheets before and after CLOSE DAY of a day D: that of D is CLOSING, a FREE one opens for D + 2. -/
structure DayClosed (s t : State) (d : Nat) (k free : SheetNo) : Prop where
  openDay : s.openDay = some d
  state : (s.sheet k).state = .opened
  day : (s.sheet k).day = some d
  wasFree : (s.sheet free).state = .free
  next : t.openDay = some (d + 1)
  opens : t.sheet free = ⟨.opened, some (d + 2), Table.fill 128 none⟩
  closes : t.sheet k = { s.sheet k with state := .closing }
  keeps : ∀ m, m ≠ free → m ≠ k → t.sheet m = s.sheet m

section
variable {s t : State} {d : Nat} {k free : SheetNo} (h : DayClosed s t d k free)
include h

/-- A sheet in use keeps its day and stays in use. -/
theorem DayClosed.live {m : SheetNo} (hm : m ≠ free) : (t.sheet m).day = (s.sheet m).day ∧
    ((t.sheet m).state = .free ↔ (s.sheet m).state = .free) := by
  by_cases hk : m = k
  · subst hk; rw [h.closes]; simp [h.state]
  · rw [h.keeps m hm hk]; exact ⟨rfl, Iff.rfl⟩

/-- A sheet in another state than OPEN and CLOSING is as it was; so is a CLOSING one but for the new. -/
theorem DayClosed.sheet_eq {m : SheetNo} (h1 : (t.sheet m).state ≠ .opened) (h2 : m ≠ k) :
    t.sheet m = s.sheet m :=
  h.keeps m (by rintro rfl; exact h1 (by rw [h.opens])) h2

theorem DayClosed.of_old {m : SheetNo} (h1 : (s.sheet m).state ≠ .free)
    (h2 : (s.sheet m).state ≠ .opened) : t.sheet m = s.sheet m :=
  h.keeps m (by rintro rfl; exact h1 h.wasFree) (by rintro rfl; exact h2 h.state)

theorem DayClosed.closed {m : SheetNo} (hm : (t.sheet m).closed = true) :
    m = k ∨ (s.sheet m).closed = true := by
  by_cases hk : m = k
  · exact .inl hk
  · have hno : (t.sheet m).state ≠ .opened := by
      rcases Sheet.closed_iff.mp hm with hs | hs <;> rw [hs] <;> decide
    rw [h.sheet_eq hno hk] at hm
    exact .inr hm

theorem DayClosed.freeIsBlank (hs : RingLaw s) {m : SheetNo} (hm : (t.sheet m).state = .free) :
    t.sheet m = .blank := by
  have h2 : m ≠ k := by rintro rfl; rw [h.closes] at hm; cases hm
  have he := h.sheet_eq (by rw [hm]; decide) h2
  rw [he] at hm ⊢
  exact hs.freeIsBlank m hm

/-- No sheet is of the day D + 2 before. -/
theorem DayClosed.day_ne (hs : RingLaw s) (m : SheetNo) : (s.sheet m).day ≠ some (d + 2) := by
  intro hm
  by_cases hfree : (s.sheet m).state = .free
  · rw [hs.day_of_free hfree] at hm; cases hm
  · obtain ⟨d', n, hd', hn, hle⟩ := hs.day_of_live hfree
    rw [h.openDay] at hd'; cases hd'
    rw [hm] at hn; cases hn
    omega

theorem DayClosed.openSheets (hs : RingLaw s) {m : SheetNo} (hm : (t.sheet m).state = .opened) :
    (t.sheet m).day = some (d + 1) ∨ (t.sheet m).day = some (d + 2) := by
  by_cases h1 : m = free
  · subst h1; rw [h.opens]; exact .inr rfl
  · have h2 : m ≠ k := by rintro rfl; rw [h.closes] at hm; cases hm
    rw [h.keeps m h1 h2] at hm ⊢
    rcases hs.openSheets d h.openDay m hm with hd | hd
    · exact absurd (hs.daysDistinct m k (by simp [hm]) (hd.trans h.day.symm)) h2
    · exact .inl hd

theorem DayClosed.openPresent (hs : RingLaw s) :
    (∃ m, (t.sheet m).state = .opened ∧ (t.sheet m).day = some (d + 1)) ∧
      ∃ m, (t.sheet m).state = .opened ∧ (t.sheet m).day = some (d + 2) := by
  obtain ⟨-, m, hm, hmd⟩ := hs.openPresent d h.openDay
  have h1 : m ≠ free := by rintro rfl; rw [h.wasFree] at hm; cases hm
  have h2 : m ≠ k := by rintro rfl; rw [h.day] at hmd; simp at hmd
  exact ⟨⟨m, by rw [h.keeps m h1 h2]; exact ⟨hm, hmd⟩⟩, free, by rw [h.opens]; exact ⟨rfl, rfl⟩⟩

theorem DayClosed.daysDistinct (hs : RingLaw s) {m n : SheetNo} (hm : (t.sheet m).state ≠ .free)
    (hmn : (t.sheet m).day = (t.sheet n).day) : m = n := by
  by_cases h1 : m = free
  · by_cases h2 : n = free
    · rw [h1, h2]
    · subst h1; rw [h.opens, (h.live h2).1] at hmn
      exact absurd hmn.symm (h.day_ne hs n)
  · by_cases h2 : n = free
    · subst h2; rw [h.opens, (h.live h1).1] at hmn
      exact absurd hmn (h.day_ne hs m)
    · rw [(h.live h1).1, (h.live h2).1] at hmn
      exact hs.daysDistinct m n (mt (h.live h1).2.mpr hm) hmn

theorem DayClosed.closing_iff (n : Nat) :
    (∃ m, (t.sheet m).state = .closing ∧ (t.sheet m).day = some n) ↔
      (∃ m, (s.sheet m).state = .closing ∧ (s.sheet m).day = some n) ∨ n = d := by
  constructor
  · rintro ⟨m, hm, hmd⟩
    by_cases hk : m = k
    · subst hk
      rw [h.closes, show ({ s.sheet m with state := .closing } : Sheet).day = some d from h.day] at hmd
      exact .inr (Option.some.inj hmd).symm
    · have he := h.sheet_eq (by rw [hm]; decide) hk
      rw [he] at hm hmd
      exact .inl ⟨m, hm, hmd⟩
  · rintro (⟨m, hm, hmd⟩ | rfl)
    · exact ⟨m, by rw [h.of_old (by simp [hm]) (by simp [hm])]; exact ⟨hm, hmd⟩⟩
    · exact ⟨k, by rw [h.closes]; exact ⟨rfl, h.day⟩⟩

theorem DayClosed.evaluating_iff (n : Nat) :
    (∃ m, (t.sheet m).state = .evaluating ∧ (t.sheet m).day = some n) ↔
      ∃ m, (s.sheet m).state = .evaluating ∧ (s.sheet m).day = some n := by
  constructor
  · rintro ⟨m, hm, hmd⟩
    have hk : m ≠ k := by rintro rfl; rw [h.closes] at hm; cases hm
    have he := h.sheet_eq (by rw [hm]; decide) hk
    rw [he] at hm hmd
    exact ⟨m, hm, hmd⟩
  · rintro ⟨m, hm, hmd⟩
    exact ⟨m, by rw [h.of_old (by simp [hm]) (by simp [hm])]; exact ⟨hm, hmd⟩⟩

/-- CLOSE DAY (R53): a DAY job of D waits at the end of the queue. -/
theorem RingLaw.closeDay (hs : RingLaw s) (hmax : d + 2 ≤ 65535)
    (hcount : s.sheets.cells.countP Sheet.closed < 2)
    (hconf : t.config.configured = s.config.configured)
    (htq : dayMarks t.queue = dayMarks s.queue ++ [(d, true)]) : RingLaw t := by
  have hday : ∀ n, t.openDay = some n → n = d + 1 := fun n hn => by
    rw [h.next] at hn; exact (Option.some.inj hn).symm
  refine ⟨fun hc => ?_, fun hn => ?_, fun m hm => h.freeIsBlank hs hm, fun n hn => ?_,
    fun n hn m hm => ?_, fun n hn => ?_, fun n hn m hm => ?_, fun m n hm => h.daysDistinct hs hm, ?_,
    fun n => ?_, fun n => ?_, ?_⟩
  · have := hs.unconfigured (hconf.symm.trans hc)
    rw [h.openDay] at this; cases this
  · rw [h.next] at hn; cases hn
  · rw [hday n hn]; omega
  · rw [hday n hn]; exact h.openSheets hs hm
  · rw [hday n hn]; exact h.openPresent hs
  · rw [hday n hn]
    rcases h.closed hm with rfl | hc
    · rw [h.closes]; exact ⟨d, h.day, Nat.lt_succ_self d⟩
    · obtain ⟨x, hx, hlt⟩ := hs.closedBelow d h.openDay m hc
      have h1 : m ≠ free := by rintro rfl; simp [Sheet.closed, h.wasFree] at hc
      exact ⟨x, (h.live h1).1.trans hx, by omega⟩
  · rw [Table.countP_eq_card] at hcount ⊢
    refine (Finset.card_le_card fun m hm => ?_).trans ((Finset.card_insert_le k _).trans hcount)
    simp only [Finset.mem_filter, Finset.mem_univ, true_and, Finset.mem_insert] at hm ⊢
    exact h.closed hm
  · rw [queued_iff_mem_dayMarks, htq, List.mem_append, ← hs.closing_iff, h.closing_iff]
    simp
  · rw [running_iff_mem_dayMarks, htq, List.mem_append, ← hs.evaluating_iff, h.evaluating_iff]
    simp
  · rw [days_eq_dayMarks, htq, List.map_append, List.pairwise_append]
    refine ⟨hs.marksIncrease, List.pairwise_singleton .., fun a ha b hb => ?_⟩
    obtain ⟨⟨a', b'⟩, hm, rfl⟩ := List.mem_map.mp ha
    cases List.mem_singleton.mp hb
    exact hs.mark_lt h.openDay hm

end

/-- CONFIGURE (R41): the ring was empty; sheets 0 and 1 open. -/
theorem RingLaw.configure {s : State} (h : RingLaw s) {p : List Byte}
    (hc : s.config.configured = false) (hp : configureValuesOk p = true) :
    RingLaw (s.configure p) := by
  obtain ⟨-, hblank, hjobs⟩ := h.closedUntilConfigured (h.unconfigured hc)
  have hmarks : dayMarks s.queue = [] := no_days_iff_dayMarks.mp hjobs
  have hrange : 1 ≤ wordAt p 6 ∧ wordAt p 6 ≤ 65533 := by
    simp only [configureValuesOk, Bool.and_eq_true, decide_eq_true_eq] at hp
    obtain ⟨⟨-, h1⟩, h2⟩ := hp
    exact ⟨h1, h2⟩
  have hat : ∀ m, (s.configure p).sheet m = ⟨.opened, some (wordAt p 6 + 1), Table.fill 128 none⟩ ∧
        m = 1 ∨ (s.configure p).sheet m = ⟨.opened, some (wordAt p 6), Table.fill 128 none⟩ ∧ m = 0 ∨
      (s.configure p).sheet m = .blank := fun m => by
    rw [configure_sheet, hblank]
    split
    · exact .inl ⟨rfl, ‹_›⟩
    · split
      · exact .inr (.inl ⟨rfl, ‹_›⟩)
      · exact .inr (.inr rfl)
  have hnot_closed : ∀ m, ((s.configure p).sheet m).closed = false := fun m => by
    rcases hat m with ⟨e, -⟩ | ⟨e, -⟩ | e <;> rw [e] <;> rfl
  have hopen : ∀ d, (s.configure p).openDay = some d → d = wordAt p 6 := fun d hd => by
    cases hd; rfl
  refine ⟨fun hn => (by cases hn), fun hn => (by cases hn), fun m hm => ?_, fun d hd => ?_,
    fun d hd m hm => ?_, fun d hd => ?_, fun d hd m hm => ?_, fun m n hm hmn => ?_, ?_, fun d => ?_,
    fun d => ?_, ?_⟩
  · rcases hat m with ⟨e, -⟩ | ⟨e, -⟩ | e <;> rw [e] at hm ⊢ <;> cases hm
  · rw [hopen d hd]; omega
  · rw [hopen d hd]
    rcases hat m with ⟨e, -⟩ | ⟨e, -⟩ | e <;> rw [e] at hm ⊢
    · exact .inr rfl
    · exact .inl rfl
    · cases hm
  · rw [hopen d hd]
    exact ⟨⟨0, by rw [configure_sheet]; exact ⟨rfl, rfl⟩⟩,
      1, by rw [configure_sheet]; exact ⟨rfl, rfl⟩⟩
  · rw [hnot_closed] at hm; cases hm
  · rcases hat m with ⟨e, hm'⟩ | ⟨e, hm'⟩ | e <;> rw [e] at hm hmn
    · rcases hat n with ⟨e', hn'⟩ | ⟨e', hn'⟩ | e' <;> rw [e'] at hmn
      · rw [hm', hn']
      · simp at hmn
      · cases hmn
    · rcases hat n with ⟨e', hn'⟩ | ⟨e', hn'⟩ | e' <;> rw [e'] at hmn
      · simp at hmn
      · rw [hm', hn']
      · cases hmn
    · exact absurd rfl hm
  · rw [Table.countP_eq_card, Finset.filter_false_of_mem]
    · exact Nat.zero_le _
    · intro m _ hm
      rw [show ((s.configure p).sheets.get m).closed = false from hnot_closed m] at hm
      cases hm
  · rw [queued_iff_mem_dayMarks]
    show _ ↔ (d, true) ∈ dayMarks s.queue
    rw [hmarks]
    refine ⟨fun ⟨m, hm, _⟩ => ?_, fun hm => by cases hm⟩
    have := hnot_closed m
    simp [Sheet.closed, hm] at this
  · rw [running_iff_mem_dayMarks]
    show _ ↔ (d, false) ∈ dayMarks s.queue
    rw [hmarks]
    refine ⟨fun ⟨m, hm, _⟩ => ?_, fun hm => by cases hm⟩
    have := hnot_closed m
    simp [Sheet.closed, hm] at this
  · rw [days_eq_dayMarks]
    show ((dayMarks s.queue).map Prod.fst).Pairwise _
    rw [hmarks]; exact List.Pairwise.nil

end Sys2Proof.Machine

namespace Sys2Proof.Machine

/-! ### The ring at a warm reset (R43, R115) -/

theorem Sheet.warmReset_day (sh : Sheet) : sh.warmReset.day = sh.day := by
  unfold Sheet.warmReset; split <;> rfl

theorem Sheet.warmReset_state (sh : Sheet) : sh.warmReset.state =
    if sh.state = .evaluating then .closing else sh.state := by
  unfold Sheet.warmReset; split <;> rfl

theorem Sheet.warmReset_closed (sh : Sheet) : sh.warmReset.closed = sh.closed := by
  unfold Sheet.warmReset
  split
  · rename_i hc; simp [Sheet.closed, hc]
  · rfl

theorem Sheet.warmReset_of_not_evaluating {sh : Sheet} (h : sh.state ≠ .evaluating) :
    sh.warmReset = sh := by simp [Sheet.warmReset, h]

theorem mem_closingDays {s : State} {d : Nat} :
    d ∈ s.closingDays ↔ ∃ k, (s.sheet k).state = .closing ∧ (s.sheet k).day = some d := by
  unfold State.closingDays
  rw [(sortAscending_perm _).mem_iff, List.mem_filterMap]
  constructor
  · rintro ⟨sh, hsh, hd⟩
    obtain ⟨k, rfl⟩ := Table.mem_cells.mp hsh
    split at hd
    · exact ⟨k, ‹_›, hd⟩
    · cases hd
  · rintro ⟨k, hk, hd⟩
    exact ⟨s.sheet k, Table.mem_cells.mpr ⟨k, rfl⟩, by rw [if_pos hk, hd]⟩

/-- Sheets of distinct days give their days in strictly increasing order. -/
theorem closingDays_increase {s : State}
    (h : ∀ k m, (s.sheet k).state = .closing → (s.sheet k).day = (s.sheet m).day → k = m) :
    s.closingDays.Pairwise (· < ·) := by
  have hnodup : s.closingDays.Nodup := by
    unfold State.closingDays
    rw [(sortAscending_perm _).nodup_iff]
    refine List.Pairwise.filterMap (R := fun x y => x.state = .closing → x.day ≠ y.day) _ ?_ ?_
    · intro x y hxy a ha b hb
      split at ha
      · split at hb
        · rename_i hx _
          rintro rfl
          exact hxy hx (ha.trans hb.symm)
        · cases hb
      · cases ha
    · rw [List.pairwise_iff_getElem]
      intro i j hi hj hij hst hday
      have hin : i < 4 := by rwa [s.sheets.size] at hi
      have hjn : j < 4 := by rwa [s.sheets.size] at hj
      have := h ⟨i, hin⟩ ⟨j, hjn⟩ hst hday
      simp only [Fin.mk.injEq] at this
      omega
  exact ((sortAscending_sorted _).and hnodup).imp fun h => lt_of_le_of_ne h.1 h.2

/-- DAY jobs that join one after another wait behind the others. -/
theorem dayMarks_joinDays (ds : List Nat) (s : State) :
    dayMarks (ds.foldl (fun t d => t.joinJob (.day d)) s).queue =
      dayMarks s.queue ++ ds.map fun d => (d, true) := by
  induction ds generalizing s with
  | nil => simp
  | cons d ds ih =>
    rw [List.foldl_cons, ih]
    show dayMarks (s.queue ++ [⟨s.nextJobId, .day d, .queued⟩]) ++ _ = _
    rw [dayMarks_append, List.append_assoc]
    rfl

/-- A DAY job waits for each CLOSING sheet after a warm reset (R115). -/
theorem dayMarks_resetUnit (s : State) :
    dayMarks s.resetUnit.queue = s.resetUnit.closingDays.map fun d => (d, true) := by
  have hdays : s.resetUnit.closingDays =
      ({ s with sheets := s.sheets.map Sheet.warmReset } : State).closingDays := by
    obtain ⟨_, _, h⟩ := s.resetUnit_frame
    rw [h]; rfl
  rw [hdays]
  unfold State.resetUnit
  obtain ⟨lanes, h⟩ := s.stopRunningRebuild_frame
  dsimp only
  rw [dayMarks_joinDays, h]
  rfl

theorem RingLaw.resetUnit {s : State} (h : RingLaw s) : RingLaw s.resetUnit := by
  have hday : ∀ k, (s.resetUnit.sheet k).day = (s.sheet k).day := fun k => by
    rw [resetUnit_sheet, Sheet.warmReset_day]
  have hopen : s.resetUnit.openDay = s.openDay := s.resetUnit_openDay
  have hopened : ∀ k, (s.resetUnit.sheet k).state = .opened ↔ (s.sheet k).state = .opened :=
    fun k => by rw [resetUnit_sheet, Sheet.warmReset_state]; split <;> simp_all
  have hfree : ∀ k, (s.resetUnit.sheet k).state = .free ↔ (s.sheet k).state = .free := fun k => by
    rw [resetUnit_sheet, Sheet.warmReset_state]; split <;> simp_all
  have hkept : ∀ k, (s.sheet k).state = .free → s.resetUnit.sheet k = .blank := fun k hk => by
    rw [resetUnit_sheet, Sheet.warmReset_of_not_evaluating (by simp [hk]), h.freeIsBlank k hk]
  have hdistinct : ∀ k m, (s.resetUnit.sheet k).state ≠ .free →
      (s.resetUnit.sheet k).day = (s.resetUnit.sheet m).day → k = m := fun k m hk hkm => by
    rw [hday, hday] at hkm
    exact h.daysDistinct k m (mt (hfree k).mpr hk) hkm
  have hclosed : ∀ k, (s.resetUnit.sheet k).closed = (s.sheet k).closed := fun k => by
    rw [resetUnit_sheet, Sheet.warmReset_closed]
  refine ⟨fun hc => ?_, fun ho => ?_, fun k hk => hkept k ((hfree k).mp hk),
    fun d hd => h.dayRange d (hopen.symm.trans hd), fun d hd k => ?_, fun d hd => ?_,
    fun d hd k => ?_, hdistinct, ?_, fun d => ?_, fun d => ?_, ?_⟩
  · rw [hopen]; rw [State.resetUnit_config] at hc; exact h.unconfigured hc
  · rw [hopen] at ho
    obtain ⟨h1, h2, -⟩ := h.closedUntilConfigured ho
    have hblank : ∀ k, s.resetUnit.sheet k = .blank := fun k => hkept k (by rw [h2 k]; rfl)
    refine ⟨by rw [State.resetUnit_config]; exact h1, hblank, ?_⟩
    rw [no_days_iff_dayMarks, dayMarks_resetUnit, List.map_eq_nil_iff,
      List.eq_nil_iff_forall_not_mem]
    intro d hd
    obtain ⟨k, hk, -⟩ := mem_closingDays.mp hd
    rw [hblank k] at hk; cases hk
  · rw [hopened, hday]; exact h.openSheets d (hopen.symm.trans hd) k
  · simp only [hopened, hday]; exact h.openPresent d (hopen.symm.trans hd)
  · rw [hclosed, hday]; exact h.closedBelow d (hopen.symm.trans hd) k
  · have : s.resetUnit.sheets.cells.countP Sheet.closed = s.sheets.cells.countP Sheet.closed :=
      Table.countP_congr hclosed
    rw [this]; exact h.closedAtMostTwo
  · rw [queued_iff_mem_dayMarks, dayMarks_resetUnit, ← mem_closingDays]
    simp
  · rw [running_iff_mem_dayMarks, dayMarks_resetUnit]
    constructor
    · rintro ⟨k, hk, -⟩
      rw [resetUnit_sheet, Sheet.warmReset_state] at hk
      split at hk
      · cases hk
      · contradiction
    · intro hm; simp at hm
  · rw [days_eq_dayMarks, dayMarks_resetUnit, List.map_map]
    rw [show (Prod.fst ∘ fun d : Nat => (d, true)) = id from rfl, List.map_id]
    exact closingDays_increase fun k m hk => hdistinct k m (by simp [hk])

/-! ### The ring through every change -/

/-- A REBUILD job leaves the queue. -/
theorem dayMarks_finishRebuild {s : State} (h : QueueLaw s) {j : Job} {i : Slot} (hj : j ∈ s.queue)
    (hk : j.kind = .rebuild i) (r : JobResult) :
    dayMarks (s.finishJob j r).queue = dayMarks s.queue := by
  obtain ⟨before, after, hq, he⟩ := h.split hj
  rw [show (s.finishJob j r).queue = before ++ after from he, hq, dayMarks_append, dayMarks_append,
    dayMarks_cons_of_rebuild after hk]

theorem dayMarks_cancelRebuildOf {s : State} (h : QueueLaw s) (i : Slot) :
    dayMarks (s.cancelRebuildOf i).queue = dayMarks s.queue := by
  unfold State.cancelRebuildOf
  split
  · rfl
  · rename_i j hj
    exact dayMarks_finishRebuild h (List.mem_of_find?_eq_some hj)
      (by simpa using List.find?_some hj) _

/-- The head job's state replaced, running before and after. -/
theorem dayMarks_setRunning {j : Job} {st st' : Stage} {rest : List Job} (hst : j.state = .running st) :
    dayMarks ({ j with state := .running st' } :: rest) = dayMarks (j :: rest) := by
  have : ({ j with state := .running st' } : Job).dayMark = j.dayMark := by
    unfold Job.dayMark; rw [hst]; rfl
  simp only [dayMarks, List.filterMap_cons, this]

/-- An entry of a sheet set: the ring reads none. -/
theorem RingLaw.setEntry {s : State} (h : RingLaw s) {k : SheetNo} {i : Slot} {e : StripEntry}
    (hk : (s.sheet k).state ≠ .free) : RingLaw (s.setEntry k i e) := by
  refine h.of_marks rfl rfl (fun m => ?_) (fun m => ?_) (fun m hm => ?_) rfl <;> rw [sheet_setEntry]
  · split
    · subst_vars; rfl
    · rfl
  · split
    · subst_vars; rfl
    · rfl
  · split
    · subst_vars; rw [hm] at hk; exact absurd rfl hk
    · exact hm

theorem closeDay_dayClosed {s : State} {d : Nat} {k free : SheetNo} (ho : s.openDay = some d)
    (hk : s.openSheet d = some k) (hf : s.freeSheet = some free) :
    DayClosed s (s.closeDay d k free) d k free := by
  obtain ⟨hstate, hday⟩ := openSheet_eq_some hk
  have hfree := freeSheet_eq_some hf
  have hne : free ≠ k := by rintro rfl; rw [hfree] at hstate; cases hstate
  refine ⟨ho, hstate, hday, hfree, rfl, ?_, ?_, fun m h1 h2 => ?_⟩ <;> rw [closeDay_sheet]
  · rw [if_pos rfl]
  · rw [if_neg hne, if_pos rfl]
  · rw [if_neg (Ne.symm h1), if_neg (Ne.symm h2)]

theorem Sheet.without_frame (i : Slot) (sh : Sheet) :
    (sh.without i).state = sh.state ∧ (sh.without i).day = sh.day := by
  unfold Sheet.without; split <;> exact ⟨rfl, rfl⟩

theorem RingLaw.change {s u : State} (h : TableChange s u) (hq : QueueLaw s) (hs : RingLaw s) :
    RingLaw u := by
  cases h with
  | configure p hc hp => exact hs.configure hc hp
  | retire i =>
    refine hs.of_marks (by simp) (by simp) (fun k => ?_) (fun k => ?_) (fun k hk => ?_) ?_
    · rw [retire_sheet, (Sheet.without_frame ..).1]
    · rw [retire_sheet, (Sheet.without_frame ..).2]
    · rw [retire_sheet, hk]; rfl
    · rw [retire_queue, dayMarks_cancelRebuildOf hq]
  | fileEntry k i day e hk => exact hs.setEntry (by simp [(openSheet_eq_some hk).1])
  | deviate k i day e x lot r _ hk => exact hs.setEntry (by simp [hk])
  | advance j rest st hqueue hst =>
    refine hs.of_queue (by simp) (by simp) (by simp) ?_
    rw [State.setStage_queue hqueue, hqueue, dayMarks_setRunning hst]
  | closeDay d k free ho hmax hcount _ hk hf =>
    refine RingLaw.closeDay (closeDay_dayClosed ho hk hf) hs hmax hcount rfl ?_
    show dayMarks (s.queue ++ [⟨s.nextJobId, .day d, .queued⟩]) = _
    rw [dayMarks_append]; rfl
  | joinRebuild i =>
    refine hs.of_queue rfl rfl rfl ?_
    show dayMarks (s.queue ++ [⟨s.nextJobId, .rebuild i, .queued⟩]) = _
    rw [dayMarks_append]; exact List.append_nil _
  | cancelRebuild j i hj hk => exact hs.of_queue rfl rfl rfl (dayMarks_finishRebuild hq hj hk _)
  | endRebuild j i st c r hj hk =>
    have hq' : QueueLaw (s.setLane i { s.lane i with chart := c }) := hq.congr rfl rfl rfl
    exact hs.of_queue rfl rfl rfl (dayMarks_finishRebuild hq' hj hk _)
  | startRebuild j rest i hqueue _ hk =>
    refine hs.of_queue (by simp) (by simp) (by simp) ?_
    rw [State.setStage_queue (s := s.setLane i (s.lane i).startRebuild) hqueue, hqueue,
      dayMarks_cons_of_rebuild rest hk]
    exact dayMarks_cons_of_rebuild rest hk
  | startDay j rest d hqueue hst hk =>
    refine hs.startDay (rest := dayMarks rest) ?_ (by simp) (by simp) (startDayJob_sheet s d) ?_
    · rw [hqueue, dayMarks_cons_of_day rest hk, hst]; rfl
    · rw [State.startDayJob_eq d hqueue]
      exact dayMarks_cons_of_day rest hk
  | endDay j rest d hqueue hst hk =>
    refine hs.endDay (rest := dayMarks rest) ?_ rfl rfl (fun k => Table.get_map ..) ?_
    · rw [hqueue, dayMarks_cons_of_day rest hk, hst]; rfl
    · rw [State.finishJob_head .done (by exact hqueue)]
  | resetUnit => exact hs.resetUnit
  | formCohort | dissolve | raise => exact hs.congr (by simp) (by simp) (by simp) (by simp)
  | _ => exact hs.congr rfl rfl rfl rfl

end Sys2Proof.Machine

namespace Sys2Proof.Machine

/-! ### The law of lanes, directory and cohorts (R20, R21, R26, R78, R79) -/

/-- The part of the law that one lane's record must satisfy alone. -/
structure Lane.Coherent (l : Lane) : Prop where
  vacant : l.state = .vacant → l = .vacant
  named : l.state ≠ .vacant → l.identity.isSome = true ∧ l.family.isSome = true
  suspendedFrom : l.state = .suspended ↔ l.suspendedFrom.isSome = true
  suspendedFromState : ∀ st, l.suspendedFrom = some st →
    st = .enrolled ∨ st = .settling ∨ st = .tracking

theorem LaneLaw.coherent {s : State} (h : LaneLaw s) (i : Slot) : (s.lane i).Coherent :=
  ⟨h.vacant i, h.named i, h.suspendedFrom i, h.suspendedFromState i⟩

theorem Lane.coherent_vacant : Lane.vacant.Coherent :=
  ⟨fun _ => rfl, fun h => absurd rfl h, ⟨fun h => (by cases h), fun h => (by cases h)⟩,
    fun _ h => by cases h⟩

theorem Lane.coherent_enrolled (id : Identity) (f : FamilyId) (x : Settings) :
    (Lane.enrolled id f x).Coherent :=
  ⟨fun h => (by cases h), fun _ => ⟨rfl, rfl⟩, ⟨fun h => (by cases h), fun h => (by cases h)⟩,
    fun _ h => by cases h⟩

/-- A lane with other contents in the same state. -/
theorem Lane.Coherent.of_eq {l m : Lane} (h : l.Coherent) (hlive : l.state ≠ .vacant)
    (hid : m.identity = l.identity) (hfam : m.family = l.family) (hst : m.state = l.state)
    (hsf : m.suspendedFrom = l.suspendedFrom) : m.Coherent := by
  obtain ⟨-, h2, h3, h4⟩ := h
  refine ⟨fun hv => absurd (hst.symm.trans hv) hlive, fun _ => ?_, ?_, ?_⟩
  · rw [hid, hfam]; exact h2 hlive
  · rw [hst, hsf]; exact h3
  · rw [hsf]; exact h4

/-- A lane that is not SUSPENDED has no state recorded. -/
theorem Lane.Coherent.suspendedFrom_eq_none {l : Lane} (h : l.Coherent) (hs : l.state ≠ .suspended) :
    l.suspendedFrom = none := by
  cases hsf : l.suspendedFrom with
  | none => rfl
  | some st => exact absurd (h.suspendedFrom.mpr (by rw [hsf]; rfl)) hs

theorem Lane.working {l : Lane} (hv : l.state ≠ .vacant)
    (hs : l.state ≠ .suspended) : l.state = .enrolled ∨ l.state = .settling ∨ l.state = .tracking := by
  cases hst : l.state <;> simp_all

/-- How an edit moves the state of a lane: not at all, into suspension, or to a working state. -/
inductive Lane.Moved (l : Lane) (m : Lane) : Prop
  | stays : m.state = l.state → m.suspendedFrom = l.suspendedFrom → Lane.Moved l m
  | suspends : l.state ≠ .suspended → m.state = .suspended → m.suspendedFrom = some l.state →
      Lane.Moved l m
  | works : m.state = .enrolled ∨ m.state = .settling ∨ m.state = .tracking →
      m.suspendedFrom = none → Lane.Moved l m

theorem Lane.Coherent.of_moved {l m : Lane} (h : l.Coherent) (hlive : l.state ≠ .vacant)
    (hid : m.identity = l.identity) (hfam : m.family = l.family) (hm : l.Moved m) :
    m.Coherent ∧ m.state ≠ .vacant := by
  have hnamed : m.identity.isSome = true ∧ m.family.isSome = true := by
    rw [hid, hfam]; exact h.named hlive
  cases hm with
  | stays hst hsf => exact ⟨h.of_eq hlive hid hfam hst hsf, by rw [hst]; exact hlive⟩
  | suspends hns hst hsf =>
    refine ⟨⟨fun hv => ?_, fun _ => hnamed, ?_, fun st hst' => ?_⟩, by rw [hst]; decide⟩
    · rw [hst] at hv; cases hv
    · rw [hst, hsf]; simp
    · rw [hsf] at hst'; cases hst'; exact Lane.working hlive hns
  | works hst hsf =>
    refine ⟨⟨fun hv => ?_, fun _ => hnamed, ?_, fun st hst' => ?_⟩, ?_⟩
    · rcases hst with hst | hst | hst <;> rw [hst] at hv <;> cases hv
    · rw [hsf]
      rcases hst with hst | hst | hst <;> rw [hst] <;> simp
    · rw [hsf] at hst'; cases hst'
    · rcases hst with hst | hst | hst <;> rw [hst] <;> decide

theorem Lane.afterReading_eq (day : Nat) (x : Settings) (entry : HistoryEntry)
    (rs : List (ParamResult × ParamState)) (l : Lane) : ∃ n st, l.afterReading day x entry rs =
      { l with
        params := rs.map (·.2)
        latestVerdict := some (worstVerdict (rs.map (·.1.verdict)))
        quiet := x.quietLimit
        dormancy := x.dormancyLimit
        history := appendHistory entry l.history
        lastApplied := some day
        settleRemaining := n
        state := st } ∧
      (st = l.state ∨ l.state = .settling ∧ (st = .tracking ∨ st = .settling)) := by
  unfold Lane.afterReading
  obtain ⟨n, st, h, hst⟩ := Lane.settleCountdown_eq day ({ l with
      params := rs.map (·.2)
      latestVerdict := some (worstVerdict (rs.map (·.1.verdict)))
      quiet := x.quietLimit
      dormancy := x.dormancyLimit
      history := appendHistory entry l.history
      lastApplied := some day } : Lane)
  exact ⟨n, st, h, hst⟩

/-- The fields that no edit of a lane touches. -/
theorem LaneEdit.frame {s : State} {i : Slot} {l : Lane} (h : LaneEdit s i l) :
    l.identity = (s.lane i).identity ∧ l.family = (s.lane i).family ∧
      l.cohort = (s.lane i).cohort := by
  cases h with
  | assign lot => obtain ⟨_, _, h⟩ := (s.lane i).assign_eq lot.code; rw [h]; exact ⟨rfl, rfl, rfl⟩
  | suspend => obtain ⟨_, _, h⟩ := (s.lane i).suspend_eq; rw [h]; exact ⟨rfl, rfl, rfl⟩
  | offsets id lot os =>
    obtain ⟨_, _, h⟩ := (s.lane i).storeOffsets_eq lot.code os; rw [h]; exact ⟨rfl, rfl, rfl⟩
  | replay j k x =>
    rcases (s.lane i).replay_eq k x with h | ⟨_, _, _, _, -, h⟩ <;> rw [h] <;> exact ⟨rfl, rfl, rfl⟩
  | reading day k e r x =>
    obtain ⟨_, _, h, -⟩ := Lane.afterReading_eq day x _ _ (s.lane i)
    rw [h]; exact ⟨rfl, rfl, rfl⟩
  | missing day lot x =>
    obtain ⟨_, _, _, _, h, -⟩ := (s.lane i).countQuiet_eq x
    rw [h]; exact ⟨rfl, rfl, rfl⟩
  | _ => exact ⟨rfl, rfl, rfl⟩

/-- A slot in the directory is not VACANT (R21). -/
theorem LaneLaw.live_of_mem_directory {s : State} (h : LaneLaw s) {id : Identity} {i : Slot}
    (hm : (id, i) ∈ s.directory) : (s.lane i).state ≠ .vacant := by
  intro hv
  have := (h.directory id i).mp hm
  rw [h.vacant i hv] at this; cases this

/-- Only a lane that is not VACANT is edited. -/
theorem LaneEdit.live {s : State} {i : Slot} {l : Lane} (h : LaneEdit s i l) (hs : LaneLaw s) :
    (s.lane i).state ≠ .vacant := by
  cases h with
  | resume st x hsus => rw [hsus]; decide
  | reload id x hm => exact hs.live_of_mem_directory hm
  | offsets id lot os hm => exact hs.live_of_mem_directory hm
  | replay j k x hj hk => exact hs.rebuildNamesLane j hj i hk
  | missing day lot x w hst => rcases hst with hst | hst <;> rw [hst] <;> decide
  | _ => assumption

theorem LaneEdit.moved {s : State} {i : Slot} {l : Lane} (h : LaneEdit s i l)
    (hs : (s.lane i).Coherent) : (s.lane i).Moved l := by
  cases h with
  | assign lot => obtain ⟨_, _, h⟩ := (s.lane i).assign_eq lot.code; rw [h]; exact .stays rfl rfl
  | suspend =>
    unfold Lane.suspend
    split
    · exact .stays rfl rfl
    · exact .suspends ‹_› rfl rfl
  | resume st x _ hsf => exact .works (hs.suspendedFromState st hsf) rfl
  | offsets id lot os =>
    obtain ⟨_, _, h⟩ := (s.lane i).storeOffsets_eq lot.code os; rw [h]; exact .stays rfl rfl
  | replay j k x =>
    rcases (s.lane i).replay_eq k x with h | ⟨_, _, _, _, -, h⟩ <;> rw [h] <;> exact .stays rfl rfl
  | switchLot day x _ hns =>
    refine .works ?_ (hs.suspendedFrom_eq_none hns)
    by_cases hsettle : 0 < x.settleDays <;> simp [Lane.switchLot, hsettle]
  | reading day k e r x sw nc sat _ _ _ _ _ _ hns =>
    obtain ⟨n, st, h, hst⟩ := Lane.afterReading_eq day x
      (readingEntry day (s.lane i) e r sw nc sat
        ((s.readingResults day i (s.lane i) x r).map (·.1)))
      (s.readingResults day i (s.lane i) x r) (s.lane i)
    rw [h]
    rcases hst with rfl | ⟨-, hst⟩
    · exact .stays rfl rfl
    · exact .works (by rcases hst with rfl | rfl <;> simp) (hs.suspendedFrom_eq_none hns)
  | missing day lot x w hst =>
    obtain ⟨_, _, st, sf, h, hmove⟩ := (s.lane i).countQuiet_eq x
    rw [h]
    rcases hmove with ⟨rfl, rfl⟩ | ⟨rfl, rfl⟩
    · exact .stays rfl rfl
    · exact .suspends (by rcases hst with hst | hst <;> rw [hst] <;> decide) rfl rfl
  | _ => exact .stays rfl rfl

/-- What the law of lanes reads of a cohort. -/
def Cohort.core (x : Cohort) : FamilyId × CohortMode × List Slot := (x.family, x.mode, x.members)

/-- The law of lanes, from what it reads of the lanes, the directory, the cohorts and the queue. -/
theorem LaneLaw.of_core {s t : State} (h : LaneLaw s) (hlane : ∀ i, (t.lane i).Coherent)
    (hkeep : ∀ i, (t.lane i).identity = (s.lane i).identity ∧ (t.lane i).family = (s.lane i).family ∧
      (t.lane i).cohort = (s.lane i).cohort)
    (hdir : t.directory = s.directory)
    (hcoh : ∀ c, (t.cohort c).map Cohort.core = (s.cohort c).map Cohort.core)
    (hjobs : ∀ j ∈ t.queue, ∀ i, j.kind = .rebuild i → (t.lane i).state ≠ .vacant) : LaneLaw t := by
  have back : ∀ c x, t.cohort c = some x → ∃ y, s.cohort c = some y ∧ y.core = x.core := by
    intro c x hx
    have := hcoh c
    rw [hx] at this
    obtain ⟨y, hy, he⟩ := Option.map_eq_some_iff.mp this.symm
    exact ⟨y, hy, he⟩
  have core_eq : ∀ {x y : Cohort}, y.core = x.core → x.family = y.family ∧ x.mode = y.mode ∧
      x.members = y.members := fun he => by
    simp only [Cohort.core, Prod.mk.injEq] at he
    exact ⟨he.1.symm, he.2.1.symm, he.2.2.symm⟩
  constructor
  · exact fun i => (hlane i).vacant
  · exact fun i => (hlane i).named
  · exact fun i => (hlane i).suspendedFrom
  · exact fun i => (hlane i).suspendedFromState
  · intro id i; rw [hdir, (hkeep i).1]; exact h.directory id i
  · rw [hdir]; exact h.oneSlotPerIdentity
  · rw [hdir]; exact h.slotsAscend
  · intro i c
    rw [(hkeep i).2.2, h.membership i c]
    constructor
    · rintro ⟨y, hy, hm⟩
      have := hcoh c
      rw [hy] at this
      obtain ⟨x, hx, he⟩ := Option.map_eq_some_iff.mp this
      exact ⟨x, hx, (core_eq he).2.2 ▸ hm⟩
    · rintro ⟨x, hx, hm⟩
      obtain ⟨y, hy, he⟩ := back c x hx
      exact ⟨y, hy, (core_eq he).2.2 ▸ hm⟩
  · intro c x hx
    obtain ⟨y, hy, he⟩ := back c x hx
    rw [(core_eq he).2.2]; exact h.membersAscend c y hy
  · intro c x hx i hi
    obtain ⟨y, hy, he⟩ := back c x hx
    rw [(core_eq he).2.2] at hi
    rw [(hkeep i).2.1, (core_eq he).1]; exact h.memberFamily c y hy i hi
  · intro c x a hx hmode
    obtain ⟨y, hy, he⟩ := back c x hx
    rw [(core_eq he).2.1] at hmode
    rw [(core_eq he).2.2]; exact h.anchorIsMember c y a hy hmode
  · exact hjobs

/-- The same, for a state with the same lanes and cohorts and no new REBUILD job. -/
theorem LaneLaw.congr {s t : State} (h : LaneLaw s) (hl : t.lanes = s.lanes)
    (hd : t.directory = s.directory) (hc : t.cohorts = s.cohorts)
    (hq : ∀ j ∈ t.queue, ∀ i, j.kind = .rebuild i → ∃ j' ∈ s.queue, j'.kind = .rebuild i) :
    LaneLaw t := by
  have hlane : ∀ i, t.lane i = s.lane i := fun i => by unfold State.lane; rw [hl]
  refine h.of_core (fun i => ?_) (fun i => ?_) hd (fun c => ?_) fun j hj i hk => ?_
  · rw [hlane]; exact h.coherent i
  · rw [hlane]; exact ⟨rfl, rfl, rfl⟩
  · unfold State.cohort; rw [hc]
  · rw [hlane]
    obtain ⟨j', hj', hk'⟩ := hq j hj i hk
    exact h.rebuildNamesLane j' hj' i hk'

/-- One lane's record changed in place. -/
theorem LaneLaw.setLane {s : State} (h : LaneLaw s) {i : Slot} {l : Lane} (hl : l.Coherent)
    (hlive : l.state ≠ .vacant) (hkeep : l.identity = (s.lane i).identity ∧
      l.family = (s.lane i).family ∧ l.cohort = (s.lane i).cohort) : LaneLaw (s.setLane i l) := by
  refine h.of_core (fun m => ?_) (fun m => ?_) rfl (fun c => rfl) fun j hj m hk => ?_ <;>
    rw [State.lane_setLane] <;> split
  · exact hl
  · exact h.coherent m
  · subst_vars; exact hkeep
  · exact ⟨rfl, rfl, rfl⟩
  · exact hlive
  · exact h.rebuildNamesLane j hj m hk

theorem LaneLaw.editLane {s : State} (h : LaneLaw s) {i : Slot} {l : Lane} (hl : LaneEdit s i l) :
    LaneLaw (s.setLane i l) := by
  have hframe := hl.frame
  obtain ⟨hcoh, hlive⟩ := (h.coherent i).of_moved (hl.live h) hframe.1 hframe.2.1
    (hl.moved (h.coherent i))
  exact h.setLane hcoh hlive hframe

/-- The chart of a lane changed, and its parameters with it. -/
theorem LaneLaw.setChart {s : State} (h : LaneLaw s) {i : Slot} (hlive : (s.lane i).state ≠ .vacant)
    (c : Chart) (ps : List ParamState) :
    LaneLaw (s.setLane i { s.lane i with chart := c, params := ps }) :=
  h.setLane ((h.coherent i).of_eq hlive rfl rfl rfl rfl) hlive ⟨rfl, rfl, rfl⟩

theorem LaneLaw.setCohort {s : State} (h : LaneLaw s) {c : CohortId} {x y : Cohort}
    (hx : s.cohort c = some x) (hy : y.core = x.core) : LaneLaw (s.setCohort c (some y)) := by
  refine h.of_core h.coherent (fun i => ⟨rfl, rfl, rfl⟩) rfl (fun d => ?_) h.rebuildNamesLane
  rw [State.cohort_setCohort]
  split
  · subst_vars; rw [hx]; exact congrArg some hy
  · rfl

end Sys2Proof.Machine

namespace Sys2Proof.Machine

/-! ### Lanes that come, go, and change cohort -/

theorem vacantSlot_eq_some {s : State} {i : Slot} (h : s.vacantSlot = some i) :
    (s.lane i).state = .vacant := by
  obtain ⟨hk, -⟩ := Table.find_eq_some.mp h
  simpa [State.lane] using hk

theorem findLane_eq_none {s : State} {id : Identity} (h : s.findLane id = none) (i : Slot) :
    (id, i) ∉ s.directory := by
  unfold State.findLane at h
  rw [Option.map_eq_none_iff, List.find?_eq_none] at h
  exact fun hm => h _ hm (beq_self_eq_true id)

theorem mem_addIdentity {id id' : Identity} {i m : Slot} {d : List (Identity × Slot)}
    (hfresh : ∀ e ∈ d, e.2 ≠ i) : (id', m) ∈ addIdentity id i d ↔ (id' = id ∧ m = i) ∨ (id', m) ∈ d := by
  simp only [addIdentity, List.mem_append, List.mem_filter, List.mem_singleton, decide_eq_true_eq,
    Prod.mk.injEq]
  constructor
  · rintro ((⟨h, -⟩ | h) | ⟨h, -⟩)
    · exact .inr h
    · exact .inl h
    · exact .inr h
  · rintro (h | h)
    · exact .inl (.inr h)
    · rcases lt_or_gt_of_ne (hfresh _ h) with hlt | hlt
      · exact .inl (.inl ⟨h, hlt⟩)
      · exact .inr ⟨h, hlt⟩

theorem addIdentity_slotsAscend {id : Identity} {i : Slot} {d : List (Identity × Slot)}
    (h : d.Pairwise fun x y => x.2 < y.2) :
    (addIdentity id i d).Pairwise fun x y => x.2 < y.2 := by
  unfold addIdentity
  rw [List.append_assoc, List.singleton_append, List.pairwise_append]
  refine ⟨h.filter _, List.pairwise_cons.mpr ⟨fun y hy => ?_, h.filter _⟩, fun x hx y hy => ?_⟩
  · simpa using (List.mem_filter.mp hy).2
  · have hxi : x.2 < i := by simpa using (List.mem_filter.mp hx).2
    rcases List.mem_cons.mp hy with rfl | hy
    · exact hxi
    · have : i < y.2 := by simpa using (List.mem_filter.mp hy).2
      exact hxi.trans this

theorem addIdentity_nodup {id : Identity} {i : Slot} {d : List (Identity × Slot)}
    (hfresh : ∀ m, (id, m) ∉ d) (h : (d.map (·.1)).Nodup) :
    ((addIdentity id i d).map (·.1)).Nodup := by
  have hnot : ∀ l : List (Identity × Slot), l.Sublist d → id ∉ l.map (·.1) := by
    intro l hl hm
    obtain ⟨⟨id', m⟩, he, rfl⟩ := List.mem_map.mp hm
    exact hfresh m (hl.subset he)
  have hsplit : (d.filter (fun e => decide (e.2 < i)) ++ d.filter (fun e => decide (i < e.2))).map
      (·.1) |>.Nodup := by
    rw [List.map_append, List.nodup_append]
    refine ⟨h.sublist (List.filter_sublist.map _), h.sublist (List.filter_sublist.map _), ?_⟩
    intro a ha b hb
    obtain ⟨x, hx, rfl⟩ := List.mem_map.mp ha
    obtain ⟨y, hy, rfl⟩ := List.mem_map.mp hb
    rw [List.mem_filter, decide_eq_true_eq] at hx hy
    intro he
    have hxy : x = y := List.inj_on_of_nodup_map h hx.1 hy.1 he
    subst hxy
    exact absurd hy.2 (lt_asymm hx.2)
  unfold addIdentity
  rw [List.append_assoc, List.singleton_append, List.map_append, List.map_cons]
  rw [List.perm_middle.nodup_iff, ← List.map_append, List.nodup_cons]
  refine ⟨?_, hsplit⟩
  rw [List.map_append, List.mem_append, not_or]
  exact ⟨hnot _ List.filter_sublist, hnot _ List.filter_sublist⟩

/-- LANE ENROL (R24): a VACANT slot has no identity, no cohort and no job. -/
theorem LaneLaw.enrol {s : State} (h : LaneLaw s) {i : Slot} {id : Identity} {f : FamilyId}
    {x : Settings} (hv : s.vacantSlot = some i) (hn : s.findLane id = none) :
    LaneLaw (s.enrol i id f x) := by
  have hvac : s.lane i = .vacant := h.vacant i (vacantSlot_eq_some hv)
  have hslot : ∀ e ∈ s.directory, e.2 ≠ i := by
    rintro ⟨id', m⟩ hm rfl
    exact h.live_of_mem_directory hm (vacantSlot_eq_some hv)
  have hlane : ∀ m, (s.enrol i id f x).lane m = if i = m then .enrolled id f x else s.lane m :=
    fun m => s.lane_setLane i m _
  have hnone : ∀ c y, s.cohort c = some y → i ∉ y.members := fun c y hy hm => by
    have := (h.membership i c).mpr ⟨y, hy, hm⟩
    rw [hvac] at this; cases this
  have hcoh : ∀ m, ((s.enrol i id f x).lane m).Coherent := fun m => by
    rw [hlane]
    split
    · exact Lane.coherent_enrolled ..
    · exact h.coherent m
  refine ⟨fun m => (hcoh m).vacant, fun m => (hcoh m).named, fun m => (hcoh m).suspendedFrom,
    fun m => (hcoh m).suspendedFromState, fun id' m => ?_, addIdentity_nodup (findLane_eq_none hn) h.oneSlotPerIdentity,
    addIdentity_slotsAscend h.slotsAscend, fun m c => ?_, h.membersAscend, fun c y hy m hm => ?_,
    h.anchorIsMember, fun j hj m hk => ?_⟩
  · rw [hlane]
    refine (mem_addIdentity hslot).trans ?_
    rw [h.directory id' m]
    split
    · subst_vars
      rw [hvac]
      simp [Lane.enrolled, Lane.vacant, eq_comm]
    · rename_i hne
      simp [Ne.symm hne]
  · rw [hlane]
    split
    · subst_vars
      refine ⟨fun hc => (by cases hc), fun ⟨y, hy, hm⟩ => absurd hm (hnone c y hy)⟩
    · exact h.membership m c
  · rw [hlane, if_neg (by rintro rfl; exact hnone c y hy hm)]
    exact h.memberFamily c y hy m hm
  · rw [hlane]
    split
    · exact fun hc => by cases hc
    · exact h.rebuildNamesLane j hj m hk

/-- No REBUILD job of a retired lane stays in the queue (R26). -/
theorem mem_cancelRebuildOf {s : State} (h : QueueLaw s) {i : Slot} {j : Job}
    (hj : j ∈ (s.cancelRebuildOf i).queue) : j ∈ s.queue ∧ j.kind ≠ .rebuild i := by
  unfold State.cancelRebuildOf at hj
  split at hj
  · exact ⟨hj, findRebuild_eq_none.mp ‹_› j hj⟩
  · rename_i x hx
    obtain ⟨before, after, hq, he⟩ := h.split (List.mem_of_find?_eq_some hx)
    have hxk : (x.kind == .rebuild i) = true :=
      List.find?_some (p := fun j : Job => j.kind == .rebuild i) hx
    have hj' : j ∈ before ++ after := he ▸ hj
    have hcount := h.oneRebuildPerLane i
    rw [hq, List.countP_append, List.countP_cons, if_pos hxk] at hcount
    have hzero : (before ++ after).countP (fun j => j.kind == .rebuild i) = 0 := by
      rw [List.countP_append]; omega
    refine ⟨?_, by simpa using List.countP_eq_zero.mp hzero j hj'⟩
    rw [hq]
    rcases List.mem_append.mp hj' with hm | hm
    · exact List.mem_append_left _ hm
    · exact List.mem_append_right _ (List.mem_cons_of_mem _ hm)

theorem Cohort.mem_without {i m : Slot} {x : Cohort} :
    m ∈ (x.without i).members ↔ m ∈ x.members ∧ m ≠ i := by
  simp [Cohort.without]

/-- A cohort after LANE RETIRE (R26). -/
theorem LaneLaw.retire_cohort {s : State} (h : LaneLaw s) {i : Slot} {c : CohortId} {y : Cohort}
    (hy : (s.retire i).cohort c = some y) :
    (s.cohort c = some y ∧ i ∉ y.members) ∨ ∃ x, s.cohort c = some x ∧ y = x.without i := by
  rw [Machine.retire_cohort] at hy
  split at hy
  · obtain ⟨x, hx, rfl⟩ := Option.map_eq_some_iff.mp hy
    exact .inr ⟨x, hx, rfl⟩
  · rename_i hne
    exact .inl ⟨hy, fun hm => hne ((h.membership i c).mpr ⟨y, hy, hm⟩)⟩

/-- LANE RETIRE (R26): the slot leaves the directory, its cohort and the queue. -/
theorem LaneLaw.retire {s : State} (h : LaneLaw s) (hq : QueueLaw s) (i : Slot) :
    LaneLaw (s.retire i) := by
  have hcoh : ∀ m, ((s.retire i).lane m).Coherent := fun m => by
    rw [retire_lane]
    split
    · exact Lane.coherent_vacant
    · exact h.coherent m
  refine ⟨fun m => (hcoh m).vacant, fun m => (hcoh m).named, fun m => (hcoh m).suspendedFrom,
    fun m => (hcoh m).suspendedFromState, fun id m => ?_, ?_, ?_, fun m c => ?_, fun c y hy => ?_,
    fun c y hy m hm => ?_, fun c y a hy hmode => ?_, fun j hj m hk => ?_⟩
  · rw [retire_directory, retire_lane, List.mem_filter, h.directory id m]
    split
    · subst_vars; simp [Lane.vacant]
    · rename_i hne; simp [Ne.symm hne]
  · rw [retire_directory]
    exact h.oneSlotPerIdentity.sublist (List.filter_sublist.map _)
  · rw [retire_directory]; exact h.slotsAscend.filter _
  · rw [retire_lane]
    split
    · subst_vars
      refine ⟨fun hc => (by cases hc), fun ⟨y, hy, hm⟩ => ?_⟩
      rcases h.retire_cohort hy with ⟨-, hno⟩ | ⟨x, -, rfl⟩
      · exact absurd hm hno
      · exact absurd rfl (Cohort.mem_without.mp hm).2
    · rename_i hne
      rw [h.membership m c]
      constructor
      · rintro ⟨x, hx, hm⟩
        rw [Machine.retire_cohort]
        split
        · exact ⟨x.without i, by rw [hx]; rfl, Cohort.mem_without.mpr ⟨hm, Ne.symm hne⟩⟩
        · exact ⟨x, hx, hm⟩
      · rintro ⟨y, hy, hm⟩
        rcases h.retire_cohort hy with ⟨hx, -⟩ | ⟨x, hx, rfl⟩
        · exact ⟨y, hx, hm⟩
        · exact ⟨x, hx, (Cohort.mem_without.mp hm).1⟩
  · rcases h.retire_cohort hy with ⟨hx, -⟩ | ⟨x, hx, rfl⟩
    · exact h.membersAscend c y hx
    · obtain ⟨h1, h2⟩ := h.membersAscend c x hx
      exact ⟨h1.filter _, (List.length_filter_le ..).trans h2⟩
  · rw [retire_lane]
    rcases h.retire_cohort hy with ⟨hx, hno⟩ | ⟨x, hx, rfl⟩
    · rw [if_neg (by rintro rfl; exact hno hm)]
      exact h.memberFamily c y hx m hm
    · obtain ⟨hm', hne⟩ := Cohort.mem_without.mp hm
      rw [if_neg (Ne.symm hne)]
      exact h.memberFamily c x hx m hm'
  · rcases h.retire_cohort hy with ⟨hx, -⟩ | ⟨x, hx, rfl⟩
    · exact h.anchorIsMember c y a hx hmode
    · unfold Cohort.without at hmode
      dsimp only at hmode
      split at hmode
      · cases hmode
      · rename_i b hb
        split at hmode
        · cases hmode
        · rename_i hne
          simp only [CohortMode.anchor.injEq] at hmode
          subst hmode
          exact Cohort.mem_without.mpr ⟨h.anchorIsMember c x a hx hb, by rintro rfl; exact hne rfl⟩
  · rw [Machine.retire_queue] at hj
    obtain ⟨hj', hne⟩ := mem_cancelRebuildOf hq hj
    rw [retire_lane, if_neg (by rintro rfl; exact hne hk)]
    exact h.rebuildNamesLane j hj' m hk

/-- The lanes after COHORT SET differ in their cohort alone. -/
theorem formCohort_lane_cases (s : State) (r : CohortRequest) (m : Slot) :
    ∃ c, (s.formCohort r).lane m = { s.lane m with cohort := c } := by
  rw [formCohort_lane]
  split
  · exact ⟨_, rfl⟩
  · split
    · exact ⟨_, rfl⟩
    · exact ⟨(s.lane m).cohort, rfl⟩

theorem dissolve_lane_cases (s : State) (c : CohortId) (ms : List Slot) (m : Slot) :
    ∃ d, (s.dissolve c ms).lane m = { s.lane m with cohort := d } := by
  rw [dissolve_lane]
  split
  · exact ⟨_, rfl⟩
  · exact ⟨(s.lane m).cohort, rfl⟩

/-- A lane whose cohort alone changes, and which is VACANT only when it does not. -/
theorem Lane.Coherent.withCohort {l : Lane} (h : l.Coherent) (d : Option CohortId)
    (hd : l.state = .vacant → d = none) : ({ l with cohort := d } : Lane).Coherent := by
  refine ⟨fun hv => ?_, h.named, h.suspendedFrom, h.suspendedFromState⟩
  have hl := h.vacant hv
  rw [hd hv, hl]; rfl

/-- COHORT DISSOLVE (R83). -/
theorem LaneLaw.dissolve {s : State} (h : LaneLaw s) {c : CohortId} {x : Cohort}
    (hx : s.cohort c = some x) : LaneLaw (s.dissolve c x.members) := by
  have hlane := dissolve_lane s c x.members
  have hcoh : ∀ m, ((s.dissolve c x.members).lane m).Coherent := fun m => by
    rw [hlane]
    split
    · exact (h.coherent m).withCohort none fun _ => rfl
    · exact h.coherent m
  have hkeep : ∀ m, ((s.dissolve c x.members).lane m).identity = (s.lane m).identity ∧
      ((s.dissolve c x.members).lane m).family = (s.lane m).family ∧
      ((s.dissolve c x.members).lane m).state = (s.lane m).state := fun m => by
    obtain ⟨d, hd⟩ := dissolve_lane_cases s c x.members m
    rw [hd]; exact ⟨rfl, rfl, rfl⟩
  have hback : ∀ {d y}, (s.dissolve c x.members).cohort d = some y → c ≠ d ∧ s.cohort d = some y := by
    intro d y hy
    rw [dissolve_cohort] at hy
    split at hy
    · cases hy
    · exact ⟨‹_›, hy⟩
  refine ⟨fun m => (hcoh m).vacant, fun m => (hcoh m).named, fun m => (hcoh m).suspendedFrom,
    fun m => (hcoh m).suspendedFromState, fun id m => ?_, ?_, ?_, fun m d => ?_, fun d y hy => ?_,
    fun d y hy m hm => ?_, fun d y a hy => ?_, fun j hj m hk => ?_⟩
  · rw [State.dissolve_directory, (hkeep m).1]; exact h.directory id m
  · rw [State.dissolve_directory]; exact h.oneSlotPerIdentity
  · rw [State.dissolve_directory]; exact h.slotsAscend
  · rw [hlane, dissolve_cohort]
    by_cases hm : m ∈ x.members
    · rw [if_pos hm]
      refine ⟨fun hc => (by cases hc), fun ⟨y, hy, hmy⟩ => ?_⟩
      split at hy
      · cases hy
      · have h1 := (h.membership m c).mpr ⟨x, hx, hm⟩
        have h2 := (h.membership m d).mpr ⟨y, hy, hmy⟩
        rw [h1] at h2; cases h2; contradiction
    · rw [if_neg hm, h.membership m d]
      constructor
      · rintro ⟨y, hy, hmy⟩
        rw [if_neg (by rintro rfl; rw [hx] at hy; cases hy; exact hm hmy)]
        exact ⟨y, hy, hmy⟩
      · rintro ⟨y, hy, hmy⟩
        split at hy
        · cases hy
        · exact ⟨y, hy, hmy⟩
  · exact h.membersAscend d y (hback hy).2
  · rw [(hkeep m).2.1]; exact h.memberFamily d y (hback hy).2 m hm
  · exact h.anchorIsMember d y a (hback hy).2
  · rw [(hkeep m).2.2]
    rw [State.dissolve_queue] at hj
    exact h.rebuildNamesLane j hj m hk

/-- COHORT SET (R81): its members, and no others, name it. -/
theorem LaneLaw.formCohort {s : State} (h : LaneLaw s) {r : CohortRequest} (hr : AdmittedCohort s r) :
    LaneLaw (s.formCohort r) := by
  have hlane := formCohort_lane s r
  have hcoh : ∀ m, ((s.formCohort r).lane m).Coherent := fun m => by
    rw [hlane]
    split
    · rename_i hm
      exact (h.coherent m).withCohort _ fun hv => absurd hv (hr.members m hm).1
    · split
      · exact (h.coherent m).withCohort none fun _ => rfl
      · exact h.coherent m
  have hkeep : ∀ m, ((s.formCohort r).lane m).identity = (s.lane m).identity ∧
      ((s.formCohort r).lane m).family = (s.lane m).family ∧
      ((s.formCohort r).lane m).state = (s.lane m).state := fun m => by
    obtain ⟨d, hd⟩ := formCohort_lane_cases s r m
    rw [hd]; exact ⟨rfl, rfl, rfl⟩
  have hsorted : ∀ m, m ∈ sortAscending r.members ↔ m ∈ r.members := fun m =>
    (sortAscending_perm r.members).mem_iff
  have hback : ∀ {d y}, (s.formCohort r).cohort d = some y →
      (r.id = d ∧ y = ⟨r.family, r.mode, sortAscending r.members, none, none, 0⟩) ∨
        r.id ≠ d ∧ s.cohort d = some y := by
    intro d y hy
    rw [formCohort_cohort] at hy
    split at hy
    · cases hy; exact .inl ⟨‹_›, rfl⟩
    · exact .inr ⟨‹_›, hy⟩
  refine ⟨fun m => (hcoh m).vacant, fun m => (hcoh m).named, fun m => (hcoh m).suspendedFrom,
    fun m => (hcoh m).suspendedFromState, fun id m => ?_, ?_, ?_, fun m d => ?_, fun d y hy => ?_,
    fun d y hy m hm => ?_, fun d y a hy hmode => ?_, fun j hj m hk => ?_⟩
  · rw [State.formCohort_directory, (hkeep m).1]; exact h.directory id m
  · rw [State.formCohort_directory]; exact h.oneSlotPerIdentity
  · rw [State.formCohort_directory]; exact h.slotsAscend
  · rw [hlane, formCohort_cohort]
    by_cases hm : m ∈ r.members
    · rw [if_pos hm]
      by_cases hd : r.id = d
      · subst hd; simp [hsorted, hm]
      · rw [if_neg hd]
        refine ⟨fun hc => absurd (Option.some.inj hc) hd, fun ⟨y, hy, hmy⟩ => ?_⟩
        have hc := (h.membership m d).mpr ⟨y, hy, hmy⟩
        rcases (hr.members m hm).2.2 with hnone | hsame
        · rw [hc] at hnone; cases hnone
        · rw [hc] at hsame; exact absurd (Option.some.inj hsame).symm hd
    · rw [if_neg hm]
      by_cases hl : m ∈ leavers s r
      · rw [if_pos hl]
        obtain ⟨⟨x, hx, hmx⟩, -⟩ := mem_leavers.mp hl
        have hc := (h.membership m r.id).mpr ⟨x, hx, hmx⟩
        refine ⟨fun hc => (by cases hc), fun ⟨y, hy, hmy⟩ => ?_⟩
        split at hy
        · cases hy; exact absurd ((hsorted m).mp hmy) hm
        · have h2 := (h.membership m d).mpr ⟨y, hy, hmy⟩
          rw [hc] at h2; cases h2; contradiction
      · rw [if_neg hl, h.membership m d]
        by_cases hd : r.id = d
        · subst hd
          rw [if_pos rfl]
          refine ⟨fun ⟨x, hx, hmx⟩ => absurd (mem_leavers.mpr ⟨⟨x, hx, hmx⟩, hm⟩) hl,
            fun ⟨y, hy, hmy⟩ => ?_⟩
          cases hy; exact absurd ((hsorted m).mp hmy) hm
        · rw [if_neg hd]
  · rcases hback hy with ⟨-, rfl⟩ | ⟨-, hy⟩
    · refine ⟨?_, by rw [(sortAscending_perm _).length_eq]; exact hr.size⟩
      exact ((sortAscending_sorted _).and ((sortAscending_perm _).nodup_iff.mpr hr.distinct)).imp
        fun h => lt_of_le_of_ne h.1 h.2
    · exact h.membersAscend d y hy
  · rw [(hkeep m).2.1]
    rcases hback hy with ⟨-, rfl⟩ | ⟨-, hy⟩
    · exact (hr.members m ((hsorted m).mp hm)).2.1
    · exact h.memberFamily d y hy m hm
  · rcases hback hy with ⟨-, rfl⟩ | ⟨-, hy⟩
    · exact (hsorted a).mpr (hr.anchor a hmode)
    · exact h.anchorIsMember d y a hy hmode
  · rw [(hkeep m).2.2]
    rw [State.formCohort_queue] at hj
    exact h.rebuildNamesLane j hj m hk

/-! ### The law of lanes through every change -/

/-- A job that leaves the queue takes none of the others with it. -/
theorem mem_of_mem_finishJob {s : State} {j x : Job} {r : JobResult}
    (hx : x ∈ (s.finishJob j r).queue) : x ∈ s.queue := List.mem_of_mem_eraseP hx

theorem mem_joinJob {s : State} {k : JobKind} {x : Job} (hx : x ∈ (s.joinJob k).queue) :
    x ∈ s.queue ∨ x.kind = k := by
  rcases List.mem_append.mp (show x ∈ s.queue ++ [⟨s.nextJobId, k, .queued⟩] from hx) with h | h
  · exact .inl h
  · rw [List.mem_singleton.mp h]; exact .inr rfl

/-- After a warm reset the queue holds DAY jobs alone (R115). -/
theorem kind_of_mem_resetUnit {s : State} {x : Job} (hx : x ∈ s.resetUnit.queue) :
    ∃ d, x.kind = .day d := by
  have joined : ∀ (ds : List Nat) (u : State), (∀ y ∈ u.queue, ∃ d, y.kind = .day d) →
      ∀ y ∈ (ds.foldl (fun t d => t.joinJob (.day d)) u).queue, ∃ d, y.kind = .day d := by
    intro ds
    induction ds with
    | nil => exact fun u hu => hu
    | cons d ds ih =>
      intro u hu
      refine ih _ fun y hy => ?_
      rcases mem_joinJob hy with hy | hy
      · exact hu y hy
      · exact ⟨d, hy⟩
  unfold State.resetUnit at hx
  obtain ⟨lanes, hl⟩ := s.stopRunningRebuild_frame
  refine joined _ _ (fun y hy => ?_) x hx
  cases hy

theorem Cohort.noCenter_core (day : Nat) (x : Cohort) : (x.noCenter day).core = x.core := by
  unfold Cohort.noCenter; split <;> rfl

theorem LaneLaw.change {s u : State} (h : TableChange s u) (hq : QueueLaw s) (hs : LaneLaw s) :
    LaneLaw u := by
  cases h with
  | enrol i id f x hv hn => exact hs.enrol hv hn
  | retire i => exact hs.retire hq i
  | editLane i l hl => exact hs.editLane hl
  | formCohort r hr => exact hs.formCohort hr
  | dissolve c x hx => exact hs.dissolve hx
  | center c x set day count k cs hx => exact hs.setCohort hx rfl
  | noCenter c x day hx => exact hs.setCohort hx (x.noCenter_core day)
  | advance j rest st hqueue =>
    refine hs.congr (by simp) (by simp) (by simp) fun y hy i hk => ?_
    rw [State.setStage_queue hqueue] at hy
    rw [hqueue]
    rcases List.mem_cons.mp hy with rfl | hy
    · exact ⟨j, List.mem_cons_self .., hk⟩
    · exact ⟨y, List.mem_cons_of_mem _ hy, hk⟩
  | closeDay d k free =>
    refine hs.congr rfl rfl rfl fun y hy i hk => ?_
    rcases mem_joinJob hy with hy | hy
    · exact ⟨y, hy, hk⟩
    · rw [hk] at hy; cases hy
  | joinRebuild i hlive =>
    refine hs.of_core hs.coherent (fun m => ⟨rfl, rfl, rfl⟩) rfl (fun c => rfl) fun y hy m hk => ?_
    rcases mem_joinJob hy with hy | hy
    · exact hs.rebuildNamesLane y hy m hk
    · rw [hk] at hy; cases hy; exact hlive
  | cancelRebuild j i => exact hs.congr rfl rfl rfl fun y hy m hk => ⟨y, mem_of_mem_finishJob hy, hk⟩
  | endRebuild j i st c r hj hk =>
    have hset := hs.setChart (hs.rebuildNamesLane j hj i hk) c (s.lane i).params
    exact hset.congr rfl rfl rfl fun y hy m hk => ⟨y, mem_of_mem_finishJob hy, hk⟩
  | startRebuild j rest i hqueue hst hk =>
    have hset : LaneLaw (s.setLane i (s.lane i).startRebuild) :=
      hs.setChart (hs.rebuildNamesLane j (hqueue ▸ List.mem_cons_self ..) i hk) .rebuilding _
    refine hset.congr (by simp) (by simp) (by simp) fun y hy m hkm => ?_
    rw [State.setStage_queue (s := s.setLane i (s.lane i).startRebuild) hqueue] at hy
    show ∃ j' ∈ s.queue, _
    rw [hqueue]
    rcases List.mem_cons.mp hy with rfl | hy
    · exact ⟨j, List.mem_cons_self .., hkm⟩
    · exact ⟨y, List.mem_cons_of_mem _ hy, hkm⟩
  | startDay j rest d hqueue hst hkd =>
    refine hs.of_core (fun i => ?_) (fun i => ?_) (by simp) (fun c => ?_) fun y hy m hk => ?_
    · rcases startDayJob_lane_cases s d i with h | ⟨f, x, -, hlive, -, h⟩ <;> rw [h]
      · exact hs.coherent i
      · exact (hs.coherent i).of_eq hlive rfl rfl rfl rfl
    · rcases startDayJob_lane_cases s d i with h | ⟨f, x, -, -, -, h⟩ <;> rw [h] <;>
        exact ⟨rfl, rfl, rfl⟩
    · rcases startDayJob_cohort_cases s d c with h | ⟨x, y, -, hy, h⟩ <;> rw [h]
      rw [hy]; rfl
    · rw [State.startDayJob_eq d hqueue] at hy
      have hmem : y ∈ s.queue := by
        rw [hqueue]
        rcases List.mem_cons.mp hy with rfl | hy
        · rw [hkd] at hk; cases hk
        · exact List.mem_cons_of_mem _ hy
      have hlive := hs.rebuildNamesLane y hmem m hk
      rcases startDayJob_lane_cases s d m with h | ⟨f, x, -, -, -, h⟩ <;> rw [h] <;> exact hlive
  | endDay j rest d =>
    exact hs.congr rfl rfl rfl fun y hy m hk => ⟨y, mem_of_mem_finishJob (r := .done) hy, hk⟩
  | resetUnit =>
    have hlane : ∀ i, s.resetUnit.lane i = s.lane i ∨ (s.lane i).state ≠ .vacant ∧
        s.resetUnit.lane i = (s.lane i).stopRebuild := fun i => by
      rw [resetUnit_lane]
      split
      · rename_i hrun
        unfold State.rebuildRunning at hrun
        split at hrun
        · rename_i j st hr
          obtain ⟨rest, hqueue, -⟩ := State.running_eq_some.mp hr
          exact .inr ⟨hs.rebuildNamesLane j (hqueue ▸ List.mem_cons_self ..) i (by simpa using hrun),
            rfl⟩
        · cases hrun
      · exact .inl rfl
    refine hs.of_core (fun i => ?_) (fun i => ?_) (by simp) (fun c => ?_) fun y hy m hk => ?_
    · rcases hlane i with h | ⟨hlive, h⟩ <;> rw [h]
      · exact hs.coherent i
      · exact (hs.coherent i).of_eq hlive rfl rfl rfl rfl
    · rcases hlane i with h | ⟨-, h⟩ <;> rw [h] <;> exact ⟨rfl, rfl, rfl⟩
    · unfold State.cohort; rw [State.resetUnit_cohorts]
    · obtain ⟨d, hd⟩ := kind_of_mem_resetUnit hy
      rw [hk] at hd; cases hd
  | raise => exact hs.congr (by simp) (by simp) (by simp) fun y hy m hk => ⟨y, by simpa using hy, hk⟩
  | _ => exact hs.congr rfl rfl rfl fun y hy m hk => ⟨y, hy, hk⟩

end Sys2Proof.Machine

namespace Sys2Proof.Machine

/-! ### The running REBUILD job -/

theorem rebuildRunning_iff {s : State} {i : Slot} : s.rebuildRunning i = true ↔
    ∃ j rest st, s.queue = j :: rest ∧ j.state = .running st ∧ j.kind = .rebuild i := by
  unfold State.rebuildRunning
  split
  · rename_i j st hr
    obtain ⟨rest, hq, hst⟩ := State.running_eq_some.mp hr
    simp only [beq_iff_eq]
    constructor
    · exact fun hk => ⟨j, rest, st, hq, hst, hk⟩
    · rintro ⟨j', rest', st', hq', -, hk⟩
      rw [hq] at hq'; cases hq'; exact hk
  · rename_i hr
    refine ⟨fun h => (by cases h), fun ⟨j, rest, st, hq, hst, _⟩ => ?_⟩
    rw [State.running_eq_some.mpr ⟨rest, hq, hst⟩] at hr; cases hr

theorem QueueLaw.rebuildRunning_iff_mem {s : State} (h : QueueLaw s) {i : Slot} :
    s.rebuildRunning i = true ↔ ∃ j ∈ s.queue, (∃ st, j.state = .running st) ∧ j.kind = .rebuild i := by
  rw [rebuildRunning_iff]
  constructor
  · rintro ⟨j, rest, st, hq, hst, hk⟩
    exact ⟨j, hq ▸ List.mem_cons_self .., ⟨st, hst⟩, hk⟩
  · rintro ⟨j, hj, ⟨st, hst⟩, hk⟩
    obtain ⟨rest, hq⟩ := h.head_of_running hj hst
    exact ⟨j, rest, st, hq, hst, hk⟩

theorem rebuildRunning_congr {s t : State} (h : t.queue = s.queue) (i : Slot) :
    t.rebuildRunning i = s.rebuildRunning i := by
  unfold State.rebuildRunning State.running; rw [h]

theorem rebuildRunning_of_queued {s : State} {j : Job} {rest : List Job} (hq : s.queue = j :: rest)
    (hst : j.state = .queued) (i : Slot) : s.rebuildRunning i = false := by
  rw [Bool.eq_false_iff]
  intro h
  obtain ⟨j', _, st, hq', hst', -⟩ := rebuildRunning_iff.mp h
  rw [hq] at hq'; cases hq'
  rw [hst] at hst'; cases hst'

theorem rebuildRunning_of_day {s : State} {j : Job} {rest : List Job} {d : Nat}
    (hq : s.queue = j :: rest) (hk : j.kind = .day d) (i : Slot) : s.rebuildRunning i = false := by
  rw [Bool.eq_false_iff]
  intro h
  obtain ⟨j', _, st, hq', -, hk'⟩ := rebuildRunning_iff.mp h
  rw [hq] at hq'; cases hq'
  rw [hk] at hk'; cases hk'

/-- The jobs left in the queue when one leaves it. -/
theorem QueueLaw.mem_finishJob {s : State} (h : QueueLaw s) {j x : Job} {r : JobResult}
    (hj : j ∈ s.queue) : x ∈ (s.finishJob j r).queue ↔ x ∈ s.queue ∧ x ≠ j := by
  obtain ⟨before, after, hq, he⟩ := h.split hj
  rw [show (s.finishJob j r).queue = before ++ after from he]
  have hids : (s.queue.map (·.id)).Nodup := (List.nodup_append.mp h.idsDistinct).1
  rw [hq] at hids ⊢
  have hnot : j ∉ before ++ after := fun hm => by
    rw [List.map_append, List.map_cons, List.perm_middle.nodup_iff, List.nodup_cons,
      ← List.map_append] at hids
    exact hids.1 (List.mem_map_of_mem hm)
  constructor
  · intro hx
    refine ⟨?_, by rintro rfl; exact hnot hx⟩
    rcases List.mem_append.mp hx with hm | hm
    · exact List.mem_append_left _ hm
    · exact List.mem_append_right _ (List.mem_cons_of_mem _ hm)
  · rintro ⟨hx, hne⟩
    rcases List.mem_append.mp hx with hm | hm
    · exact List.mem_append_left _ hm
    · rcases List.mem_cons.mp hm with rfl | hm
      · exact absurd rfl hne
      · exact List.mem_append_right _ hm

/-- A QUEUED job that leaves stops no running job. -/
theorem QueueLaw.rebuildRunning_finishQueued {s : State} (h : QueueLaw s) {j : Job} {r : JobResult}
    (hj : j ∈ s.queue) (hst : j.state = .queued) (i : Slot) :
    (s.finishJob j r).rebuildRunning i = s.rebuildRunning i := by
  rw [Bool.eq_iff_iff, (h.finishJob hj r).rebuildRunning_iff_mem, h.rebuildRunning_iff_mem]
  simp only [h.mem_finishJob hj]
  constructor
  · rintro ⟨x, ⟨hx, -⟩, hs, hk⟩
    exact ⟨x, hx, hs, hk⟩
  · rintro ⟨x, hx, ⟨st, hs⟩, hk⟩
    exact ⟨x, ⟨hx, by rintro rfl; rw [hst] at hs; cases hs⟩, ⟨st, hs⟩, hk⟩

/-- Once the running job has left, no job runs. -/
theorem QueueLaw.rebuildRunning_finishRunning {s : State} (h : QueueLaw s) {j : Job} {r : JobResult}
    {st : Stage} (hj : j ∈ s.queue) (hst : j.state = .running st) (i : Slot) :
    (s.finishJob j r).rebuildRunning i = false := by
  rw [Bool.eq_false_iff]
  intro hrun
  obtain ⟨x, hx, ⟨st', hs⟩, -⟩ := (h.finishJob hj r).rebuildRunning_iff_mem.mp hrun
  obtain ⟨hx, hne⟩ := (h.mem_finishJob hj).mp hx
  obtain ⟨rest, hq⟩ := h.head_of_running hj hst
  obtain ⟨rest', hq'⟩ := h.head_of_running hx hs
  rw [hq] at hq'; cases hq'
  exact hne rfl

/-- A job that joins the queue waits. -/
theorem QueueLaw.rebuildRunning_joinJob {s : State} (h : QueueLaw s) {k : JobKind}
    (h' : QueueLaw (s.joinJob k)) (i : Slot) :
    (s.joinJob k).rebuildRunning i = s.rebuildRunning i := by
  rw [Bool.eq_iff_iff, h'.rebuildRunning_iff_mem, h.rebuildRunning_iff_mem]
  constructor
  · rintro ⟨x, hx, ⟨st, hs⟩, hk⟩
    rcases List.mem_append.mp (show x ∈ s.queue ++ [⟨s.nextJobId, k, .queued⟩] from hx) with hx | hx
    · exact ⟨x, hx, ⟨st, hs⟩, hk⟩
    · rw [List.mem_singleton.mp hx] at hs; cases hs
  · rintro ⟨x, hx, hs, hk⟩
    exact ⟨x, List.mem_append_left _ hx, hs, hk⟩

theorem QueueLaw.rebuildRunning_cancelRebuildOf {s : State} (h : QueueLaw s) {i : Slot}
    (hi : s.rebuildRunning i = false) (m : Slot) :
    (s.cancelRebuildOf i).rebuildRunning m = s.rebuildRunning m := by
  unfold State.cancelRebuildOf
  split
  · rfl
  · rename_i j hj
    have hmem := List.mem_of_find?_eq_some hj
    have hk : (j.kind == .rebuild i) = true :=
      List.find?_some (p := fun j : Job => j.kind == .rebuild i) hj
    refine h.rebuildRunning_finishQueued hmem ?_ m
    cases hst : j.state with
    | queued => rfl
    | running st =>
      have := h.rebuildRunning_iff_mem.mpr ⟨j, hmem, ⟨st, hst⟩, by simpa using hk⟩
      rw [hi] at this; cases this

/-! ### The law of charts, offsets and histories (R29, R120, R122) -/

/-- The part of the law that one lane's record must satisfy alone. -/
structure Lane.Recorded (l : Lane) : Prop where
  offsets : ∀ os, l.effOffsets = some os ∨ l.pendOffsets = some os → ∀ o ∈ os, -150 ≤ o ∧ o ≤ 150
  historyLength : l.history.length ≤ 32
  daysIncrease : l.history.Pairwise fun x y => x.day < y.day
  applied : ∀ x ∈ l.history, ∃ n, l.lastApplied = some n ∧ x.day ≤ n

theorem ChartLaw.recorded {s : State} (h : ChartLaw s) (i : Slot) : (s.lane i).Recorded :=
  ⟨h.offsets i, h.historyLength i, h.daysIncrease i, h.applied i⟩

theorem ChartLaw.of_recorded {s : State} (h : ∀ i, (s.lane i).Recorded)
    (hchart : ∀ i, (s.lane i).chart = .rebuilding ↔ s.rebuildRunning i = true) : ChartLaw s :=
  ⟨hchart, fun i => (h i).offsets, fun i => (h i).historyLength, fun i => (h i).daysIncrease,
    fun i => (h i).applied⟩

theorem Lane.recorded_vacant : Lane.vacant.Recorded := by
  refine ⟨fun os h => ?_, Nat.zero_le _, List.Pairwise.nil, fun x hx => by cases hx⟩
  rcases h with h | h <;> cases h

theorem Lane.Recorded.of_eq {l m : Lane} (h : l.Recorded) (he : m.effOffsets = l.effOffsets)
    (hp : m.pendOffsets = l.pendOffsets) (hh : m.history = l.history)
    (ha : m.lastApplied = l.lastApplied) : m.Recorded := by
  obtain ⟨h1, h2, h3, h4⟩ := h
  constructor <;> simp only [he, hp, hh, ha] <;> assumption

theorem appendHistory_length (x : HistoryEntry) {l : List HistoryEntry} (h : l.length ≤ 32) :
    (appendHistory x l).length ≤ 32 := by
  unfold appendHistory Config.maxHistory
  split <;> simp <;> omega

/-- A day applied after the last is later than every entry of the history (R120). -/
theorem Lane.Recorded.day_lt {l : Lane} (h : l.Recorded) {day : Nat}
    (hd : l.lastApplied.any (day ≤ ·) = false) : ∀ x ∈ l.history, x.day < day := by
  intro x hx
  obtain ⟨n, hn, hle⟩ := h.applied x hx
  rw [hn] at hd
  have : n < day := by simpa using hd
  omega

theorem appendHistory_daysIncrease {x : HistoryEntry} {l : List HistoryEntry}
    (h : l.Pairwise fun x y => x.day < y.day) (hx : ∀ y ∈ l, y.day < x.day) :
    (appendHistory x l).Pairwise fun x y => x.day < y.day := by
  have hsub : (if Config.maxHistory ≤ l.length then l.drop 1 else l).Sublist l := by
    split
    · exact List.drop_sublist ..
    · exact List.Sublist.refl _
  unfold appendHistory
  rw [List.pairwise_append]
  refine ⟨h.sublist hsub, List.pairwise_singleton .., fun y hy z hz => ?_⟩
  rw [List.mem_singleton.mp hz]
  exact hx y (hsub.subset hy)

/-- The record of a day appended (R120). -/
theorem Lane.Recorded.append {l m : Lane} (h : l.Recorded) {x : HistoryEntry}
    (hd : l.lastApplied.any (x.day ≤ ·) = false) (he : m.effOffsets = l.effOffsets)
    (hp : m.pendOffsets = l.pendOffsets) (hh : m.history = appendHistory x l.history)
    (ha : m.lastApplied = some x.day) : m.Recorded := by
  have hlt := h.day_lt hd
  refine ⟨?_, ?_, ?_, fun y hy => ⟨x.day, ha, ?_⟩⟩
  · rw [he, hp]; exact h.offsets
  · rw [hh]; exact appendHistory_length x h.historyLength
  · rw [hh]; exact appendHistory_daysIncrease h.daysIncrease hlt
  · rw [hh] at hy
    rcases mem_appendHistory hy with rfl | hy
    · exact le_rfl
    · exact (hlt y hy).le

theorem Lane.assign_offsets {code : Nat} {l : Lane} :
    (l.assign code).1.effOffsets = l.effOffsets ∧
      ((l.assign code).1.pendOffsets = l.pendOffsets ∨ (l.assign code).1.pendOffsets = none) := by
  unfold Lane.assign
  split
  · exact ⟨rfl, .inr rfl⟩
  · split
    · exact ⟨rfl, .inl rfl⟩
    · exact ⟨rfl, .inr rfl⟩

theorem LaneEdit.recorded {s : State} {i : Slot} {l : Lane} (h : LaneEdit s i l)
    (hl : (s.lane i).Recorded) : l.Recorded := by
  cases h with
  | assign lot =>
    obtain ⟨_, _, h⟩ := (s.lane i).assign_eq lot.code
    obtain ⟨he, hp⟩ := (s.lane i).assign_offsets (code := lot.code)
    refine ⟨fun os hos => ?_, ?_, ?_, ?_⟩
    · rw [he] at hos
      rcases hp with hp | hp <;> rw [hp] at hos
      · exact hl.offsets os hos
      · exact hl.offsets os (.inl (by simpa using hos))
    all_goals rw [h]
    · exact hl.historyLength
    · exact hl.daysIncrease
    · exact hl.applied
  | suspend => obtain ⟨_, _, h⟩ := (s.lane i).suspend_eq; rw [h]; exact hl.of_eq rfl rfl rfl rfl
  | offsets id lot os _ _ _ hrange =>
    refine ⟨fun os' hos => ?_, ?_, ?_, ?_⟩
    · unfold Lane.storeOffsets at hos
      split at hos
      · rcases hos with hos | hos
        · cases hos; exact hrange
        · exact hl.offsets os' (.inr hos)
      · rcases hos with hos | hos
        · exact hl.offsets os' (.inl hos)
        · cases hos; exact hrange
    all_goals
      obtain ⟨_, _, h⟩ := (s.lane i).storeOffsets_eq lot.code os
      rw [h]
    · exact hl.historyLength
    · exact hl.daysIncrease
    · exact hl.applied
  | exclude day flag =>
    refine ⟨hl.offsets, (List.length_map ..).trans_le hl.historyLength, ?_, fun x hx => ?_⟩
    · refine List.pairwise_map.mpr (hl.daysIncrease.imp fun {x y} hxy => ?_)
      split <;> split <;> exact hxy
    · obtain ⟨y, hy, rfl⟩ := List.mem_map.mp hx
      obtain ⟨n, hn, hle⟩ := hl.applied y hy
      exact ⟨n, hn, by split <;> exact hle⟩
  | replay j k x =>
    rcases (s.lane i).replay_eq k x with h | ⟨_, _, _, _, -, h⟩ <;> rw [h]
    · exact hl
    · exact hl.of_eq rfl rfl rfl rfl
  | switchLot day x =>
    refine ⟨fun os hos => ?_, hl.historyLength, hl.daysIncrease, hl.applied⟩
    rcases hos with hos | hos
    · exact hl.offsets os (.inr hos)
    · cases hos
  | reading day k e r x sw nc sat _ _ _ _ _ _ _ hday =>
    obtain ⟨_, _, h, -⟩ := Lane.afterReading_eq day x
      (readingEntry day (s.lane i) e r sw nc sat
        ((s.readingResults day i (s.lane i) x r).map (·.1)))
      (s.readingResults day i (s.lane i) x r) (s.lane i)
    rw [h]
    exact hl.append (x := readingEntry day (s.lane i) e r sw nc sat _) hday rfl rfl rfl rfl
  | missing day lot x w _ _ hday =>
    obtain ⟨_, _, _, _, h, -⟩ := (s.lane i).countQuiet_eq x
    rw [h]
    exact hl.append (x := ⟨day, lot, false, .missing w⟩) hday rfl rfl rfl rfl
  | passed day _ hday =>
    refine ⟨hl.offsets, hl.historyLength, hl.daysIncrease, fun x hx => ⟨day, rfl, ?_⟩⟩
    exact (hl.day_lt hday x hx).le
  | _ => exact hl.of_eq rfl rfl rfl rfl

/-- An edit leaves the chart as it is, or unsettles that of a lane without a running REBUILD job. -/
theorem LaneEdit.chart {s : State} {i : Slot} {l : Lane} (h : LaneEdit s i l) :
    l.chart = (s.lane i).chart ∨ l.chart = .unsettled ∧ s.rebuildRunning i = false := by
  cases h with
  | assign lot => obtain ⟨_, _, h⟩ := (s.lane i).assign_eq lot.code; rw [h]; exact .inl rfl
  | suspend => obtain ⟨_, _, h⟩ := (s.lane i).suspend_eq; rw [h]; exact .inl rfl
  | offsets id lot os =>
    obtain ⟨_, _, h⟩ := (s.lane i).storeOffsets_eq lot.code os; rw [h]; exact .inl rfl
  | exclude day flag _ hrun => exact .inr ⟨rfl, hrun⟩
  | replay j k x =>
    rcases (s.lane i).replay_eq k x with h | ⟨_, _, _, _, -, h⟩ <;> rw [h] <;> exact .inl rfl
  | reading day k e r x =>
    obtain ⟨_, _, h, -⟩ := Lane.afterReading_eq day x _ _ (s.lane i)
    rw [h]; exact .inl rfl
  | missing day lot x =>
    obtain ⟨_, _, _, _, h, -⟩ := (s.lane i).countQuiet_eq x
    rw [h]; exact .inl rfl
  | _ => exact .inl rfl

/-- The lanes keep their charts and the same REBUILD job runs. -/
theorem ChartLaw.of_running {s t : State} (h : ChartLaw s) (hlane : ∀ i, (t.lane i).Recorded)
    (hchart : ∀ i, (t.lane i).chart = (s.lane i).chart)
    (hrun : ∀ i, t.rebuildRunning i = s.rebuildRunning i) : ChartLaw t :=
  .of_recorded hlane fun i => by rw [hchart, hrun]; exact h.rebuilding i

theorem ChartLaw.congr {s t : State} (h : ChartLaw s) (hl : t.lanes = s.lanes)
    (hrun : ∀ i, t.rebuildRunning i = s.rebuildRunning i) : ChartLaw t := by
  have hlane : ∀ i, t.lane i = s.lane i := fun i => by unfold State.lane; rw [hl]
  exact h.of_running (fun i => by rw [hlane]; exact h.recorded i) (fun i => by rw [hlane]) hrun

theorem ChartLaw.not_rebuilding {s : State} (h : ChartLaw s) {i : Slot}
    (hi : s.rebuildRunning i = false) : (s.lane i).chart ≠ .rebuilding := fun hc => by
  rw [(h.rebuilding i).mp hc] at hi; cases hi

/-- Two states in neither of which a REBUILD job runs. -/
theorem ChartLaw.of_idle {s t : State} (h : ChartLaw s) (hlane : ∀ i, (t.lane i).Recorded)
    (hchart : ∀ i, (t.lane i).chart = (s.lane i).chart ∨ (t.lane i).chart ≠ .rebuilding)
    (hs : ∀ i, s.rebuildRunning i = false ∨ (t.lane i).chart ≠ .rebuilding)
    (ht : ∀ i, t.rebuildRunning i = false) : ChartLaw t := by
  refine .of_recorded hlane fun i => ⟨fun hc => ?_, fun hr => ?_⟩
  · rcases hchart i with he | he
    · rcases hs i with hi | hi
      · exact absurd (he ▸ hc) (h.not_rebuilding hi)
      · exact absurd hc hi
    · exact absurd hc he
  · rw [ht i] at hr; cases hr

/-- The running REBUILD job leaves, and its lane's chart is no longer REBUILDING (R111, R122). -/
theorem ChartLaw.endRebuild {s : State} (h : ChartLaw s) (hq : QueueLaw s) {j : Job} {i : Slot}
    {st : Stage} {c : Chart} (hj : j ∈ s.queue) (hk : j.kind = .rebuild i)
    (hst : j.state = .running st) (hc : c ≠ .rebuilding) (r : JobResult) :
    ChartLaw ((s.setLane i { s.lane i with chart := c }).finishJob j r) := by
  have hq' : QueueLaw (s.setLane i { s.lane i with chart := c }) := hq.congr rfl rfl rfl
  obtain ⟨rest, hqueue⟩ := hq.head_of_running hj hst
  have hother : ∀ m, i ≠ m → s.rebuildRunning m = false := fun m hne => by
    refine Bool.eq_false_iff.mpr fun hrun => ?_
    obtain ⟨j', _, _, hqueue', -, hk'⟩ := rebuildRunning_iff.mp hrun
    rw [hqueue] at hqueue'; cases hqueue'
    rw [hk] at hk'; cases hk'; exact hne rfl
  have hlane : ∀ m, ((s.setLane i { s.lane i with chart := c }).finishJob j r).lane m =
      if i = m then { s.lane i with chart := c } else s.lane m := fun m => s.lane_setLane i m _
  refine h.of_idle (fun m => ?_) (fun m => ?_) (fun m => ?_)
    (hq'.rebuildRunning_finishRunning hj hst)
  all_goals
    rw [hlane]
    split
  · exact (h.recorded i).of_eq rfl rfl rfl rfl
  · exact h.recorded m
  · exact .inr hc
  · exact .inl rfl
  · exact .inr hc
  · exact .inl (hother m ‹_›)

/-- REBUILD_START (R122, R128). -/
theorem ChartLaw.startRebuild {s : State} (h : ChartLaw s) {j : Job} {rest : List Job} {i : Slot}
    (hqueue : s.queue = j :: rest) (hst : j.state = .queued) (hk : j.kind = .rebuild i) :
    ChartLaw ((s.setLane i (s.lane i).startRebuild).setStage (.replay 0)) := by
  have hlane : ∀ m, ((s.setLane i (s.lane i).startRebuild).setStage (.replay 0)).lane m =
      if i = m then (s.lane i).startRebuild else s.lane m := fun m => by
    unfold State.lane
    rw [State.setStage_lanes]
    exact s.lane_setLane i m _
  have hqueue' : ((s.setLane i (s.lane i).startRebuild).setStage (.replay 0)).queue =
      { j with state := .running (.replay 0) } :: rest :=
    State.setStage_queue (s := s.setLane i (s.lane i).startRebuild) hqueue _
  refine .of_recorded (fun m => ?_) fun m => ?_
  · rw [hlane]
    split
    · exact (h.recorded i).of_eq rfl rfl rfl rfl
    · exact h.recorded m
  · rw [rebuildRunning_iff, hqueue', hlane]
    split
    · subst_vars
      exact ⟨fun _ => ⟨_, _, _, rfl, rfl, hk⟩, fun _ => rfl⟩
    · rename_i hne
      refine ⟨fun hc => absurd hc (h.not_rebuilding (rebuildRunning_of_queued hqueue hst m)), ?_⟩
      rintro ⟨_, _, _, he, -, hk'⟩
      cases he
      rw [show j.kind = .rebuild m from hk'] at hk
      cases hk; exact absurd rfl hne

/-- After a warm reset no job runs, and the lane of a stopped REBUILD job is UNSETTLED (R132). -/
theorem ChartLaw.resetUnit {s : State} (h : ChartLaw s) : ChartLaw s.resetUnit := by
  refine .of_recorded (fun m => ?_) fun m => ?_
  · rw [resetUnit_lane]
    split
    · exact (h.recorded m).of_eq rfl rfl rfl rfl
    · exact h.recorded m
  · have hnone : s.resetUnit.rebuildRunning m = false := by
      rw [Bool.eq_false_iff]
      intro hrun
      obtain ⟨j, _, _, hqueue, -, hk⟩ := rebuildRunning_iff.mp hrun
      obtain ⟨d, hd⟩ := kind_of_mem_resetUnit (hqueue ▸ List.mem_cons_self ..)
      rw [hk] at hd; cases hd
    rw [hnone, resetUnit_lane]
    split
    · exact ⟨fun hc => (by cases hc), fun hc => (by cases hc)⟩
    · rename_i hrun
      exact ⟨fun hc => absurd hc (h.not_rebuilding (Bool.eq_false_iff.mpr hrun)),
        fun hc => (by cases hc)⟩

theorem ChartLaw.change {s u : State} (h : TableChange s u) (hq : QueueLaw s) (hl : LaneLaw s)
    (hs : ChartLaw s) : ChartLaw u := by
  have hqu : QueueLaw u := hq.change h
  cases h with
  | enrol i id f x hv =>
    have hvac : s.lane i = .vacant := hl.vacant i (vacantSlot_eq_some hv)
    refine hs.of_running (fun m => ?_) (fun m => ?_) fun m => rfl
    all_goals rw [show (s.enrol i id f x).lane m = if i = m then .enrolled id f x else s.lane m from
      s.lane_setLane i m _]
    · split
      · exact Lane.recorded_vacant.of_eq rfl rfl rfl rfl
      · exact hs.recorded m
    · split
      · subst_vars; rw [hvac]; rfl
      · rfl
  | retire i _ _ hrun =>
    have hsame : ∀ m, (s.retire i).rebuildRunning m = s.rebuildRunning m := fun m => by
      rw [rebuildRunning_congr (retire_queue s i), hq.rebuildRunning_cancelRebuildOf hrun]
    refine .of_recorded (fun m => ?_) fun m => ?_
    · rw [retire_lane]
      split
      · exact Lane.recorded_vacant
      · exact hs.recorded m
    · rw [hsame, retire_lane]
      split
      · subst_vars; rw [hrun]; exact ⟨fun hc => (by cases hc), fun hc => (by cases hc)⟩
      · exact hs.rebuilding m
  | editLane i l he =>
    refine .of_recorded (fun m => ?_) fun m => ?_
    · rw [State.lane_setLane]
      split
      · exact he.recorded (hs.recorded i)
      · exact hs.recorded m
    · rw [State.lane_setLane, rebuildRunning_congr (s := s) (t := s.setLane i l) rfl]
      split
      · rename_i him; subst him
        rcases he.chart with hc | ⟨hc, hrun⟩
        · rw [hc]; exact hs.rebuilding i
        · rw [hc, hrun]; exact ⟨fun hc => (by cases hc), fun hc => (by cases hc)⟩
      · exact hs.rebuilding m
  | formCohort r =>
    refine hs.of_running (fun m => ?_) (fun m => ?_) (rebuildRunning_congr (by simp)) <;>
      obtain ⟨c, hc⟩ := formCohort_lane_cases s r m <;> rw [hc]
    exact (hs.recorded m).of_eq rfl rfl rfl rfl
  | dissolve c x =>
    refine hs.of_running (fun m => ?_) (fun m => ?_) (rebuildRunning_congr (by simp)) <;>
      obtain ⟨d, hd⟩ := dissolve_lane_cases s c x.members m <;> rw [hd]
    exact (hs.recorded m).of_eq rfl rfl rfl rfl
  | advance j rest st hqueue hst =>
    refine hs.congr (by simp) fun i => ?_
    rw [Bool.eq_iff_iff, rebuildRunning_iff, rebuildRunning_iff, State.setStage_queue hqueue, hqueue]
    constructor
    · rintro ⟨_, _, _, he, -, hk⟩
      cases he; exact ⟨j, rest, st, rfl, hst, hk⟩
    · rintro ⟨_, _, _, he, -, hk⟩
      cases he; exact ⟨_, rest, _, rfl, rfl, hk⟩
  | closeDay d k free =>
    have hring : ∀ i, (s.closeDay d k free).rebuildRunning i = (s.joinJob (.day d)).rebuildRunning i :=
      rebuildRunning_congr rfl
    refine hs.congr rfl fun i => ?_
    rw [hring, hq.rebuildRunning_joinJob (hqu.congr rfl rfl rfl)]
  | joinRebuild i => exact hs.congr rfl (hq.rebuildRunning_joinJob hqu)
  | cancelRebuild j i hj _ hst => exact hs.congr rfl (hq.rebuildRunning_finishQueued hj hst)
  | endRebuild j i st c r hj hk hst hc => exact hs.endRebuild hq hj hk hst hc r
  | startRebuild j rest i hqueue hst hk => exact hs.startRebuild hqueue hst hk
  | startDay j rest d hqueue hst hk =>
    have hqueue' := congrArg State.queue (State.startDayJob_eq d hqueue)
    refine hs.of_idle (fun m => ?_) (fun m => ?_)
      (fun m => .inl (rebuildRunning_of_queued hqueue hst m)) ?_
    · rcases startDayJob_lane_cases s d m with h | ⟨f, x, -, -, -, h⟩ <;> rw [h]
      · exact hs.recorded m
      · exact (hs.recorded m).of_eq rfl rfl rfl rfl
    · rcases startDayJob_lane_cases s d m with h | ⟨f, x, -, -, -, h⟩ <;> rw [h] <;> exact .inl rfl
    · exact rebuildRunning_of_day hqueue' hk
  | endDay j rest d hqueue hst hk =>
    have hq' : QueueLaw { s with sheets := s.sheets.map (Sheet.endDay d) } := hq.congr rfl rfl rfl
    exact hs.of_idle hs.recorded (fun m => .inl rfl) (fun m => .inl (rebuildRunning_of_day hqueue hk m))
      (hq'.rebuildRunning_finishRunning (hqueue ▸ List.mem_cons_self ..) hst)
  | resetUnit => exact hs.resetUnit
  | raise => exact hs.congr (by simp) (rebuildRunning_congr (by simp))
  | _ => exact hs.congr rfl (rebuildRunning_congr rfl)

end Sys2Proof.Machine

namespace Sys2Proof.Machine

/-! ### The law that joins the records (R2, R16, R24, R29, R35, R78, R121) -/

/-- What a lane's record says of the families and the lots. -/
structure Lane.Backed (s : State) (l : Lane) : Prop where
  family : ∀ f, l.family = some f → ∃ x, (s.family f).active = some x ∧
    l.params.length = x.plan.length ∧
    ∀ h ∈ l.history, ∀ rerun notes rs v, h.body = .reading rerun notes rs v →
      rs.length = x.plan.length
  lots : ∀ c, l.effective = some c ∨ l.pendingLot = some c →
    ∃ lot ∈ s.lots, lot.code = c ∧ l.family = some lot.family
  effOffsets : ∀ os, l.effOffsets = some os →
    ∃ lot ∈ s.lots, l.effective = some lot.code ∧ os.length = lot.published.length
  pendOffsets : ∀ os, l.pendOffsets = some os →
    ∃ lot ∈ s.lots, l.pendingLot = some lot.code ∧ os.length = lot.published.length
  effective : ∀ st, l.state = st ∨ l.suspendedFrom = some st → st = .settling ∨ st = .tracking →
    l.effective.isSome = true
  history : l.history ≠ [] → l.effective.isSome = true

/-- What a cohort's record says of its family. -/
def Cohort.Backed (s : State) (x : Cohort) : Prop :=
  ∃ set, (s.family x.family).active = some set ∧
    (∀ cs, x.centers = some cs → cs.length = set.plan.length) ∧
    ∀ q, x.mode = .median q → 3 ≤ q ∧ q ≤ 16

/-- What a strip entry says of its lane's family and of its lot. -/
def StripEntry.Backed (s : State) (l : Lane) (e : StripEntry) : Prop :=
  ∃ lot ∈ s.lots, lot.code = e.lot ∧ l.family = some lot.family ∧
    e.raw.length = lot.published.length ∧ (∀ v ∈ e.raw, v ≤ 4000) ∧ e.rerun ≤ 15

theorem recordLaw_iff {s : State} : RecordLaw s ↔ (∀ i, (s.lane i).Backed s) ∧
    (∀ c x, s.cohort c = some x → x.Backed s) ∧
    ∀ k i e, (s.sheet k).entries.get i = some e → e.Backed s (s.lane i) := by
  constructor
  · intro h
    refine ⟨fun i => ?_, h.cohort, h.entry⟩
    exact ⟨h.laneFamily i, h.laneLots i, h.effOffsets i, h.pendOffsets i, h.effective i, h.history i⟩
  · rintro ⟨h1, h2, h3⟩
    exact ⟨fun i => (h1 i).family, fun i => (h1 i).lots, fun i => (h1 i).effOffsets,
      fun i => (h1 i).pendOffsets, fun i => (h1 i).effective, fun i => (h1 i).history, h2, h3⟩

theorem RecordLaw.lane {s : State} (h : RecordLaw s) (i : Slot) : (s.lane i).Backed s :=
  (recordLaw_iff.mp h).1 i

/-- The active plan of every DEFINED family keeps its size. -/
def PlansKept (s t : State) : Prop := ∀ f x, (s.family f).active = some x →
  ∃ y, (t.family f).active = some y ∧ y.plan.length = x.plan.length

theorem PlansKept.of_eq {s t : State} (h : t.families = s.families) : PlansKept s t :=
  fun f x hx => ⟨x, by unfold State.family at hx ⊢; rw [h]; exact hx, rfl⟩

theorem Lane.Backed.mono {s t : State} {l : Lane} (h : l.Backed s) (hp : PlansKept s t)
    (hlots : ∀ lot ∈ s.lots, l.hasLot lot.code = true → lot ∈ t.lots) : l.Backed t := by
  have heff : ∀ {lot}, lot ∈ s.lots → l.effective = some lot.code → lot ∈ t.lots := fun hm he =>
    hlots _ hm (by simp [Lane.hasLot, he])
  have hpend : ∀ {lot}, lot ∈ s.lots → l.pendingLot = some lot.code → lot ∈ t.lots := fun hm he =>
    hlots _ hm (by simp [Lane.hasLot, he])
  refine ⟨fun f hf => ?_, fun c hc => ?_, fun os hos => ?_, fun os hos => ?_, h.effective, h.history⟩
  · obtain ⟨x, hx, hparams, hhist⟩ := h.family f hf
    obtain ⟨y, hy, he⟩ := hp f x hx
    exact ⟨y, hy, by rw [he]; exact hparams, by rw [he]; exact hhist⟩
  · obtain ⟨lot, hm, rfl, hf⟩ := h.lots c hc
    exact ⟨lot, hc.elim (heff hm) (hpend hm), rfl, hf⟩
  · obtain ⟨lot, hm, he, hlen⟩ := h.effOffsets os hos
    exact ⟨lot, heff hm he, he, hlen⟩
  · obtain ⟨lot, hm, he, hlen⟩ := h.pendOffsets os hos
    exact ⟨lot, hpend hm he, he, hlen⟩

theorem Cohort.Backed.mono {s t : State} {x : Cohort} (h : x.Backed s) (hp : PlansKept s t) :
    x.Backed t := by
  obtain ⟨set, hset, hcs, hq⟩ := h
  obtain ⟨y, hy, he⟩ := hp x.family set hset
  exact ⟨y, hy, by rw [he]; exact hcs, hq⟩

/-- A cohort's record without centers. -/
theorem Cohort.Backed.of_eq {s : State} {x y : Cohort} (h : x.Backed s) (hf : y.family = x.family)
    (hm : ∀ q, y.mode = .median q → x.mode = .median q)
    (hc : ∀ cs, y.centers = some cs → x.centers = some cs) : y.Backed s := by
  obtain ⟨set, hset, hcs, hq⟩ := h
  exact ⟨set, by rw [hf]; exact hset, fun cs h => hcs cs (hc cs h), fun q h => hq q (hm q h)⟩

theorem StripEntry.Backed.mono {s t : State} {l m : Lane} {e : StripEntry} (h : e.Backed s l)
    (hf : m.family = l.family) (hlots : ∀ lot ∈ s.lots, lot.code = e.lot → lot ∈ t.lots) :
    e.Backed t m := by
  obtain ⟨lot, hm, hc, hfam, hrest⟩ := h
  exact ⟨lot, hlots lot hm hc, hc, hf.trans hfam, hrest⟩

/-- The law for a state with the same families and lots. -/
theorem RecordLaw.of_parts (s : State) {t : State} (hf : t.families = s.families) (hl : t.lots = s.lots)
    (hlane : ∀ i, (t.lane i).Backed s) (hcohort : ∀ c x, t.cohort c = some x → x.Backed s)
    (hentry : ∀ k i e, (t.sheet k).entries.get i = some e → e.Backed s (t.lane i)) :
    RecordLaw t := by
  have hp := PlansKept.of_eq hf
  refine recordLaw_iff.mpr ⟨fun i => (hlane i).mono hp fun lot hm _ => hl ▸ hm,
    fun c x hx => (hcohort c x hx).mono hp, fun k i e he => (hentry k i e he).mono rfl ?_⟩
  exact fun lot hm _ => hl ▸ hm

theorem RecordLaw.congr {s t : State} (h : RecordLaw s) (hf : t.families = s.families)
    (hl : t.lots = s.lots) (hlanes : t.lanes = s.lanes) (hc : t.cohorts = s.cohorts)
    (hs : t.sheets = s.sheets) : RecordLaw t := by
  obtain ⟨h1, h2, h3⟩ := recordLaw_iff.mp h
  refine .of_parts s hf hl ?_ ?_ ?_
  all_goals unfold State.lane at *
  · rw [hlanes]; exact h1
  · unfold State.cohort; rw [hc]; exact h2
  · unfold State.sheet; rw [hs, hlanes]; exact h3

theorem Lane.Backed.of_eq {s : State} {l m : Lane} (h : l.Backed s) (hf : m.family = l.family)
    (he : m.effective = l.effective) (hp : m.pendingLot = l.pendingLot)
    (heo : m.effOffsets = l.effOffsets) (hpo : m.pendOffsets = l.pendOffsets)
    (hpar : m.params.length = l.params.length) (hh : m.history = l.history) (hst : m.state = l.state)
    (hsf : m.suspendedFrom = l.suspendedFrom) : m.Backed s := by
  obtain ⟨h1, h2, h3, h4, h5, h6⟩ := h
  constructor <;> simp only [hf, he, hp, heo, hpo, hpar, hh, hst, hsf] <;> assumption

theorem Lane.backed_vacant (s : State) : Lane.vacant.Backed s := by
  refine ⟨fun f h => (by cases h), fun c h => ?_, fun os h => (by cases h), fun os h => (by cases h),
    fun st h hst => ?_, fun h => absurd rfl h⟩
  · rcases h with h | h <;> cases h
  · rcases h with rfl | h
    · rcases hst with hst | hst <;> cases hst
    · cases h

theorem Lane.backed_enrolled {s : State} {f : FamilyId} {x : Settings} (id : Identity)
    (hx : (s.family f).active = some x) : (Lane.enrolled id f x).Backed s := by
  refine ⟨fun g h => ?_, fun c h => ?_, fun os h => (by cases h), fun os h => (by cases h),
    fun st h hst => ?_, fun h => absurd rfl h⟩
  · cases h
    exact ⟨x, hx, by simp [Lane.enrolled, freshParams], fun z hz => (by cases hz)⟩
  · rcases h with h | h <;> cases h
  · rcases h with rfl | h
    · rcases hst with hst | hst <;> cases hst
    · cases h

theorem laneSettings_eq_some {s : State} {l : Lane} {x : Settings} :
    s.laneSettings l = some x ↔ ∃ f, l.family = some f ∧ (s.family f).active = some x := by
  unfold State.laneSettings
  split
  · simp [*]
  · simp [*]

/-- The lots of the table have distinct codes (R11). -/
theorem LotLaw.eq_of_code {s : State} (h : LotLaw s) {l m : LotRecord} (hl : l ∈ s.lots)
    (hm : m ∈ s.lots) (hc : l.code = m.code) : l = m := by
  have hnodup : (s.lots.map (·.code)).Nodup :=
    List.pairwise_map.mpr (h.codesAscend.imp fun hlt => Nat.ne_of_lt hlt)
  exact List.inj_on_of_nodup_map hnodup hl hm hc

/-- The record of a lot that a lane names. -/
theorem Lane.Backed.lot {s : State} {l : Lane} (h : l.Backed s) {c : Nat} (hc : l.hasLot c = true) :
    ∃ lot ∈ s.lots, lot.code = c ∧ l.family = some lot.family :=
  h.lots c (by simpa [Lane.hasLot] using hc)

theorem LotLaw.published_length {s : State} (h : LotLaw s) {l : Lane} {lot : LotRecord} {x : Settings}
    (hl : lot ∈ s.lots) (hf : l.family = some lot.family) (hx : s.laneSettings l = some x) :
    lot.published.length = 3 * x.patchCount ∧ lot.aims.length = x.plan.length := by
  obtain ⟨y, hy, hp, -, ha⟩ := h.shape lot hl
  obtain ⟨f, hf', hx'⟩ := laneSettings_eq_some.mp hx
  rw [hf] at hf'; cases hf'
  rw [hy] at hx'; cases hx'
  exact ⟨hp, ha⟩

/-! ### The lengths of a reading's results -/

theorem applyParams_length {x : Settings} {sound tested : Bool} {ps : List PlanEntry}
    {ds : List Int} {es : List (Option Int)} {os : List ParamState} (hd : ds.length = ps.length)
    (he : es.length = ps.length) (ho : os.length = ps.length) :
    (applyParams x sound tested ps ds es os).length = ps.length := by
  induction ps generalizing ds es os with
  | nil => simp [applyParams]
  | cons p ps ih =>
    match ds, es, os with
    | [], _, _ => cases hd
    | _ :: _, [], _ => cases he
    | _ :: _, _ :: _, [] => cases ho
    | d :: ds, e :: es, o :: os =>
      rw [applyParams, List.length_cons, List.length_cons,
        ih (Nat.succ.inj hd) (Nat.succ.inj he) (Nat.succ.inj ho)]

theorem rawEvaluated_length {n : Nat} {ds : List Int} {cs : Option (List Int)} (hd : ds.length = n)
    (hc : ∀ c, cs = some c → c.length = n) : (rawEvaluated ds cs).length = n := by
  cases cs with
  | none => simp [rawEvaluated, hd]
  | some c => simp [rawEvaluated, hd, hc c rfl]

/-- The centers that a day removes have one element for each entry of the lane's plan (R64, R78). -/
theorem removedCenters_length {s : State} (hl : LaneLaw s) (hr : RecordLaw s) {day : Nat} {i : Slot}
    {x : Settings} {cs : List Int} (hx : s.laneSettings (s.lane i) = some x)
    (h : s.removedCenters day (s.lane i).cohort i = some cs) : cs.length = x.plan.length := by
  unfold State.removedCenters at h
  split at h
  · cases h
  · obtain ⟨c, hc, h⟩ := Option.bind_eq_some_iff.mp h
    obtain ⟨y, hy, h⟩ := Option.bind_eq_some_iff.mp h
    unfold Cohort.centersFor at h
    split at h
    · obtain ⟨z, hz, hm⟩ := (hl.membership i c).mp hc
      rw [hy] at hz; cases hz
      obtain ⟨set, hset, hlen, -⟩ := hr.cohort c y hy
      obtain ⟨f, hf, hx⟩ := laneSettings_eq_some.mp hx
      rw [hl.memberFamily c y hy i hm] at hf; cases hf
      rw [hset] at hx; cases hx
      exact hlen cs h
    · cases h

/-- A reading's results: one for each entry of the plan (R63). -/
theorem readingResults_length {s : State} (hl : LaneLaw s) (hr : RecordLaw s) (hst : StageLaw s)
    {day : Nat} {i : Slot} {k : SheetNo} {e : StripEntry} {r : Deviated} {x : Settings}
    (hday : s.DayAt day (.apply i)) (hk : s.evaluatingSheet day = some k)
    (he : (s.sheet k).entries.get i = some e) (hres : e.result = some r)
    (hx : s.laneSettings (s.lane i) = some x) :
    (s.readingResults day i (s.lane i) x r).length = x.plan.length := by
  obtain ⟨-, j, rest, hq, hkind, hstate⟩ := hday
  obtain ⟨hks, hkd⟩ := evaluatingSheet_eq_some hk
  obtain ⟨r', hr', hcoh, hdevs⟩ := hst.deviated j rest day _ hq hkind hstate k hks hkd i e he rfl
  rw [hres] at hr'; cases hr'
  obtain ⟨f, hf, hactive⟩ := laneSettings_eq_some.mp hx
  have hlen := hdevs f x hf hactive
  obtain ⟨y, hy, hparams, -⟩ := hr.laneFamily i f hf
  rw [hactive] at hy; cases hy
  unfold State.readingResults
  refine applyParams_length hlen ?_ hparams
  rw [List.length_map]
  refine rawEvaluated_length hlen fun cs hcs => ?_
  rw [hcoh] at hcs
  exact removedCenters_length hl hr hx hcs

/-! ### The records after an edit of a lane -/

theorem Lane.Backed.assign {s : State} {l : Lane} (h : l.Backed s) {lot : LotRecord}
    (hm : lot ∈ s.lots) (hf : l.family = some lot.family) : (l.assign lot.code).1.Backed s := by
  unfold Lane.assign
  split
  · refine { h with lots := fun c hc => ?_, pendOffsets := fun os hos => (by cases hos) }
    rcases hc with hc | hc
    · exact h.lots c (.inl hc)
    · cases hc
  · split
    · exact h
    · refine { h with lots := fun c hc => ?_, pendOffsets := fun os hos => (by cases hos) }
      rcases hc with hc | hc
      · exact h.lots c (.inl hc)
      · cases hc; exact ⟨lot, hm, rfl, hf⟩

theorem Lane.Backed.storeOffsets {s : State} {l : Lane} (h : l.Backed s) {lot : LotRecord}
    (hm : lot ∈ s.lots) (hhas : l.hasLot lot.code = true) {os : List Int}
    (hos : os.length = lot.published.length) : (l.storeOffsets lot.code os).1.Backed s := by
  unfold Lane.storeOffsets
  split
  · rename_i heff
    exact { h with effOffsets := fun os' hos' => by cases hos'; exact ⟨lot, hm, heff, hos⟩ }
  · rename_i heff
    have hpend : l.pendingLot = some lot.code := by simpa [Lane.hasLot, heff] using hhas
    exact { h with pendOffsets := fun os' hos' => by cases hos'; exact ⟨lot, hm, hpend, hos⟩ }

/-- A day's record appended to the history of a lane with an effective lot (R120). -/
theorem Lane.Backed.append {s : State} {l m : Lane} (h : l.Backed s) {y : HistoryEntry}
    (heff : l.effective.isSome = true) (hf : m.family = l.family) (he : m.effective = l.effective)
    (hp : m.pendingLot = l.pendingLot) (heo : m.effOffsets = l.effOffsets)
    (hpo : m.pendOffsets = l.pendOffsets) (hh : m.history = appendHistory y l.history)
    (hlen : ∀ f x, l.family = some f → (s.family f).active = some x →
      l.params.length = x.plan.length → m.params.length = x.plan.length ∧
        ∀ rerun notes rs v, y.body = .reading rerun notes rs v → rs.length = x.plan.length) :
    m.Backed s := by
  have hsome : m.effective.isSome = true := he ▸ heff
  refine ⟨fun f hf' => ?_, ?_, ?_, ?_, fun _ _ _ => hsome, fun _ => hsome⟩
  · rw [hf] at hf'
    obtain ⟨x, hx, hparams, hhist⟩ := h.family f hf'
    obtain ⟨hnew, hbody⟩ := hlen f x hf' hx hparams
    refine ⟨x, hx, hnew, fun z hz => ?_⟩
    rw [hh] at hz
    rcases mem_appendHistory hz with rfl | hz
    · exact hbody
    · exact hhist z hz
  · rw [he, hp, hf]; exact h.lots
  · rw [heo, he]; exact h.effOffsets
  · rw [hpo, hp]; exact h.pendOffsets

theorem LaneEdit.backed {s : State} {i : Slot} {l : Lane} (h : LaneEdit s i l) (hl : LaneLaw s)
    (hlot : LotLaw s) (hr : RecordLaw s) (hst : StageLaw s) : l.Backed s := by
  have hb := hr.lane i
  cases h with
  | assign lot _ hm hf => exact hb.assign hm hf
  | suspend hlive =>
    unfold Lane.suspend
    split
    · exact hb
    · refine { hb with effective := fun st h hst => ?_ }
      rcases h with rfl | h
      · rcases hst with hst | hst <;> cases hst
      · cases h; exact hb.effective _ (.inl rfl) hst
  | resume st x _ hsf =>
    refine { hb with effective := fun st' h hst => ?_ }
    rcases h with rfl | h
    · exact hb.effective _ (.inr hsf) hst
    · cases h
  | reload id x => exact hb.of_eq rfl rfl rfl rfl rfl rfl rfl rfl rfl
  | offsets id lot os hdir hm hhas _ hlen =>
    obtain ⟨lot', hm', hc, hf⟩ := hb.lot hhas
    have hlot' : lot' = lot := hlot.eq_of_code hm' hm hc
    subst hlot'
    obtain ⟨x, hx, -⟩ := hb.family _ hf
    have hset : s.laneSettings (s.lane i) = some x := laneSettings_eq_some.mpr ⟨_, hf, hx⟩
    have hos : os.length = lot'.published.length :=
      hlen x hset (hlot.published_length hm hf hset).1
    exact hb.storeOffsets hm hhas hos
  | exclude day flag =>
    refine { hb with family := fun f hf => ?_, history := fun hne => ?_ }
    · obtain ⟨x, hx, hparams, hhist⟩ := hb.family f hf
      refine ⟨x, hx, hparams, fun y hy rerun notes rs v hbody => ?_⟩
      obtain ⟨z, hz, rfl⟩ := List.mem_map.mp hy
      refine hhist z hz rerun notes rs v ?_
      split at hbody <;> exact hbody
    · exact hb.history fun hnil => hne (by
        show List.map _ (s.lane i).history = []
        rw [hnil]; rfl)
  | replay j k x _ _ hx =>
    rcases (s.lane i).replay_eq k x with h | ⟨rs, rerun, notes, v, hbody, h⟩ <;> rw [h]
    · exact hb
    · refine { hb with family := fun f hf => ?_ }
      obtain ⟨set, hset, hparams, hhist⟩ := hb.family f hf
      refine ⟨set, hset, ?_, hhist⟩
      rw [List.length_zipWith, hparams, hhist x hx rerun notes rs v hbody, min_self]
  | switchLot day x _ _ hpend =>
    refine ⟨fun f hf => ?_, fun c hc => ?_, hb.pendOffsets, fun os hos => (by cases hos),
      fun _ _ _ => hpend, fun _ => hpend⟩
    · obtain ⟨set, hset, hparams, hhist⟩ := hb.family f hf
      exact ⟨set, hset, (List.length_map ..).trans hparams, hhist⟩
    · rcases hc with hc | hc
      · exact hb.lots c (.inr hc)
      · cases hc
  | reading day k e r x sw nc sat hday hk he hres hx hlive hns hdays heff =>
    have hlen := readingResults_length hl hr hst hday hk he hres hx
    obtain ⟨n, st, h, -⟩ := Lane.afterReading_eq day x
      (readingEntry day (s.lane i) e r sw nc sat
        ((s.readingResults day i (s.lane i) x r).map (·.1)))
      (s.readingResults day i (s.lane i) x r) (s.lane i)
    rw [h]
    refine hb.append (y := readingEntry day (s.lane i) e r sw nc sat _) (by rw [heff]; rfl) rfl rfl rfl
      rfl rfl rfl fun f y hf hy _ => ?_
    have hset : s.laneSettings (s.lane i) = some y := laneSettings_eq_some.mpr ⟨f, hf, hy⟩
    rw [hx] at hset; cases hset
    refine ⟨(List.length_map ..).trans hlen, fun rerun notes rs v hbody => ?_⟩
    cases hbody; exact (List.length_map ..).trans hlen
  | missing day lot x w hstate heff =>
    obtain ⟨_, _, st, sf, h, -⟩ := (s.lane i).countQuiet_eq x
    rw [h]
    exact hb.append (y := ⟨day, lot, false, .missing w⟩) (by rw [heff]; rfl) rfl rfl rfl rfl rfl rfl
      fun f y hf hy hparams => ⟨hparams, fun rerun notes rs v hbody => by cases hbody⟩
  | passed day => exact hb.of_eq rfl rfl rfl rfl rfl rfl rfl rfl rfl

end Sys2Proof.Machine

namespace Sys2Proof.Machine

/-- No family that waits for a change of structure has lots (R7). -/
theorem LotLaw.no_lot_of_remade {s : State} (h : LotLaw s) {f : FamilyId} {x : Settings}
    (hx : (s.family f).remade = some x) : ∀ lot ∈ s.lots, lot.family ≠ f := by
  rintro lot hm rfl
  obtain ⟨hp, hne⟩ := FamilyRecord.remade_eq_some.mp hx
  obtain ⟨y, hy, -⟩ := h.shape lot hm
  rw [hy] at hne
  exact hne (congrArg some (h.structureKept lot hm y x hy hp).symm)

/-- A family that is not remade keeps the size of its plan through its promotion (R8). -/
theorem FamilyRecord.promoted_active {r : FamilyRecord} (h : r.remade = none) {x : Settings}
    (hx : r.active = some x) :
    ∃ y, r.promoted.active = some y ∧ y.plan.length = x.plan.length := by
  unfold FamilyRecord.promoted
  split
  · exact ⟨x, hx, rfl⟩
  · rename_i y hy
    have hlay : r.active.map Settings.layout = some y.layout := by
      by_contra hne
      rw [FamilyRecord.remade_eq_some.mpr ⟨hy, hne⟩] at h; cases h
    rw [hx] at hlay
    exact ⟨y, rfl, (Settings.sizes_of_layout_eq (Option.some.inj hlay).symm).2⟩

theorem FamilyRecord.promoted_active_of_remade {r : FamilyRecord} {x : Settings}
    (h : r.remade = some x) : r.promoted.active = some x := by
  unfold FamilyRecord.promoted
  rw [(FamilyRecord.remade_eq_some.mp h).1]
  rfl

/-- A lane of a family without lots names none, and so has kept nothing (R8, R16). -/
theorem Lane.Backed.of_no_lot {s : State} {l : Lane} (h : l.Backed s) {f : FamilyId}
    (hf : l.family = some f) (hno : ∀ lot ∈ s.lots, lot.family ≠ f) :
    l.effective = none ∧ l.pendingLot = none ∧ l.history = [] := by
  have hlots : ∀ c, ¬ (l.effective = some c ∨ l.pendingLot = some c) := fun c hc => by
    obtain ⟨lot, hm, -, hf'⟩ := h.lots c hc
    rw [hf] at hf'; cases hf'
    exact hno lot hm rfl
  have heff : l.effective = none := by
    cases he : l.effective with
    | none => rfl
    | some c => exact absurd (.inl he) (hlots c)
  refine ⟨heff, ?_, ?_⟩
  · cases hp : l.pendingLot with
    | none => rfl
    | some c => exact absurd (.inr hp) (hlots c)
  · by_contra hne
    have := h.history hne
    rw [heff] at this; cases this

/-- The same lane with other chart states, and other plans of the families. -/
theorem Lane.Backed.remake {s t : State} {l : Lane} (h : l.Backed s) (hl : t.lots = s.lots)
    {ps : List ParamState} (hf : ∀ f, l.family = some f → ∃ x, (t.family f).active = some x ∧
      ps.length = x.plan.length ∧ ∀ y ∈ l.history, ∀ rerun notes rs v,
        y.body = .reading rerun notes rs v → rs.length = x.plan.length) :
    ({ l with params := ps } : Lane).Backed t := by
  refine ⟨hf, ?_, ?_, ?_, h.effective, h.history⟩ <;> rw [hl]
  · exact h.lots
  · exact h.effOffsets
  · exact h.pendOffsets

/-- A lane at the start of a DAY job: a remade one has kept nothing of its old plan (R8). -/
theorem Lane.Backed.startDay {s : State} {i : Slot} (h : (s.lane i).Backed s) (hl : LaneLaw s)
    (hlot : LotLaw s) (d : Nat) : ((s.startDayJob d).lane i).Backed (s.startDayJob d) := by
  have hlots : (s.startDayJob d).lots = s.lots := s.startDayJob_lots d
  have hfam := startDayJob_family s d
  cases hf : (s.lane i).family with
  | none =>
    have hsame : (s.startDayJob d).lane i = s.lane i := by
      rw [(startDayJob_records s d).1, State.promoteAll_lane, hf]
    rw [hsame]
    exact h.remake hlots fun f hf' => by rw [hf] at hf'; cases hf'
  | some f =>
    rw [startDayJob_lane d hf]
    unfold FamilyRecord.remakeLane
    cases hrem : (s.family f).remade with
    | none =>
      refine h.remake hlots fun g hg => ?_
      rw [hf] at hg; cases hg
      obtain ⟨x, hx, hparams, hhist⟩ := h.family f hf
      obtain ⟨y, hy, he⟩ := FamilyRecord.promoted_active hrem hx
      exact ⟨y, by rw [hfam]; exact hy, by rw [he]; exact hparams, by rw [he]; exact hhist⟩
    | some x =>
      have hlive : (s.lane i).state ≠ .vacant := fun hv => by
        rw [hl.vacant i hv] at hf; cases hf
      obtain ⟨-, -, hhist⟩ := h.of_no_lot hf (hlot.no_lot_of_remade hrem)
      dsimp only
      rw [Lane.restructure_of_eq x hlive hf]
      refine h.remake hlots fun g hg => ?_
      rw [hf] at hg; cases hg
      refine ⟨x, by rw [hfam]; exact FamilyRecord.promoted_active_of_remade hrem, ?_, ?_⟩
      · simp [freshParams]
      · rw [hhist]; exact fun y hy => by cases hy

/-- A cohort at the start of a DAY job: a remade one has no centers (R8). -/
theorem Cohort.Backed.startDay {s : State} {c : CohortId} {x y : Cohort} (h : y.Backed s)
    (hy : s.cohort c = some y) (d : Nat) (hx : (s.startDayJob d).cohort c = some x) :
    x.Backed (s.startDayJob d) := by
  obtain ⟨set, hset, hcs, hq⟩ := h
  have hfam := startDayJob_family s d
  rw [startDayJob_cohort d hy] at hx
  unfold FamilyRecord.remakeCohort at hx
  cases hrem : (s.family y.family).remade with
  | none =>
    rw [hrem] at hx; cases hx
    obtain ⟨z, hz, he⟩ := FamilyRecord.promoted_active hrem hset
    exact ⟨z, by rw [hfam]; exact hz, by rw [he]; exact hcs, hq⟩
  | some z =>
    have hnew : x = { y with centers := none, count := 0 } := by
      rw [hrem] at hx
      simpa [restructureCohort, eq_comm] using hx
    subst hnew
    exact ⟨z, by rw [hfam]; exact FamilyRecord.promoted_active_of_remade hrem,
      fun cs hcs => (by cases hcs), hq⟩

/-- The records at the start of a DAY job (R8, R102). -/
theorem RecordLaw.startDay {s : State} (h : RecordLaw s) (hl : LaneLaw s) (hlot : LotLaw s) (d : Nat) :
    RecordLaw (s.startDayJob d) := by
  obtain ⟨hlane, hcohort, hentry⟩ := recordLaw_iff.mp h
  refine recordLaw_iff.mpr ⟨fun i => (hlane i).startDay hl hlot d, fun c x hx => ?_, fun k i e he => ?_⟩
  · have hold : ∃ y, s.cohort c = some y := by
      rcases startDayJob_cohort_cases s d c with h | ⟨_, y, -, hy, -⟩
      · exact ⟨x, h ▸ hx⟩
      · exact ⟨y, hy⟩
    obtain ⟨y, hy⟩ := hold
    exact (hcohort c y hy).startDay hy d hx
  · rw [startDayJob_sheet] at he
    have he' : (s.sheet k).entries.get i = some e := by
      unfold Sheet.startDay at he; split at he <;> exact he
    refine (hentry k i e he').mono ?_ fun lot hm _ => (s.startDayJob_lots d).symm ▸ hm
    rcases startDayJob_lane_cases s d i with h | ⟨f, x, -, -, -, h⟩ <;> rw [h]

/-- LOT DROP (R16): nothing names a lot that is not in use. -/
theorem RecordLaw.dropLot {s : State} (h : RecordLaw s) (hl : LaneLaw s) (hring : RingLaw s)
    {code : Nat} (hfree : s.lotInUse code = false) : RecordLaw (s.dropLot code) := by
  obtain ⟨hlane, hcohort, hentry⟩ := recordLaw_iff.mp h
  have hunused := mt lotInUse_iff.mpr (Bool.eq_false_iff.mp hfree)
  rw [not_or] at hunused
  obtain ⟨hlanes, hsheets⟩ := hunused
  have hkept : ∀ lot ∈ s.lots, lot.code ≠ code → lot ∈ (s.dropLot code).lots := fun lot hm hne =>
    List.mem_filter.mpr ⟨hm, by simpa using hne⟩
  have hp : PlansKept s (s.dropLot code) := .of_eq rfl
  refine recordLaw_iff.mpr ⟨fun i => ?_, fun c x hx => (hcohort c x hx).mono hp, fun k i e he => ?_⟩
  · refine (hlane i).mono hp fun lot hm hhas => hkept lot hm ?_
    rintro rfl
    have hnamed : (s.lane i).effective = some lot.code ∨ (s.lane i).pendingLot = some lot.code := by
      simpa [Lane.hasLot] using hhas
    refine hlanes ⟨i, fun hv => ?_, hnamed⟩
    rw [hl.vacant i hv] at hnamed
    rcases hnamed with h | h <;> cases h
  · refine (hentry k i e he).mono rfl fun lot hm hc => hkept lot hm ?_
    rintro rfl
    refine hsheets ⟨k, i, e, fun hk => ?_, he, hc.symm⟩
    have he' : (s.sheet k).entries.get i = some e := he
    rw [hring.freeIsBlank k hk] at he'
    simp [Sheet.blank] at he'

/-- While no DAY job runs no sheet is EVALUATING (R42). -/
theorem not_evaluating_of_idle {s : State} (hq : QueueLaw s) (hring : RingLaw s)
    (hidle : s.dayRunning = false) (k : SheetNo) : (s.sheet k).state ≠ .evaluating := by
  intro hk
  obtain ⟨_, d, -, hd, -⟩ := hring.day_of_live (k := k) (by simp [hk])
  obtain ⟨j, hj, hkind, hst⟩ := (hring.evaluatingRuns d).mp ⟨k, hk, hd⟩
  cases hs : j.state with
  | queued => exact hst hs
  | running st =>
    obtain ⟨rest, hqueue⟩ := hq.head_of_running hj hs
    unfold State.dayRunning at hidle
    rw [State.running_eq_some.mpr ⟨rest, hqueue, hs⟩] at hidle
    simp only [hkind] at hidle
    cases hidle

/-- After LANE RETIRE no sheet holds an entry of the slot (R26). -/
theorem retire_entry {s : State} (hq : QueueLaw s) (hring : RingLaw s) (hidle : s.dayRunning = false)
    {i m : Slot} {k : SheetNo} {e : StripEntry}
    (he : ((s.retire i).sheet k).entries.get m = some e) :
    (s.sheet k).entries.get m = some e ∧ m ≠ i := by
  rw [retire_sheet] at he
  unfold Sheet.without at he
  split at he
  · have he' : ((s.sheet k).entries.set i none).get m = some e := he
    rw [Table.get_set] at he'
    split at he'
    · cases he'
    · exact ⟨he', Ne.symm ‹_›⟩
  · rename_i hstate
    rw [not_or] at hstate
    have hfree : (s.sheet k).state = .free := by
      cases hst : (s.sheet k).state with
      | free => rfl
      | opened => exact absurd hst hstate.1
      | closing => exact absurd hst hstate.2
      | evaluating => exact absurd hst (not_evaluating_of_idle hq hring hidle k)
    rw [hring.freeIsBlank k hfree] at he
    simp [Sheet.blank] at he

theorem centersOf_length {n : Nat} {ds : List (List Int)} {cs : List Int}
    (h : centersOf n ds = some cs) : cs.length = n := by
  rw [allSome_length h, List.length_map, List.length_range]

theorem RecordLaw.setCohort {s : State} (h : RecordLaw s) {c : CohortId} {x : Cohort}
    (hx : x.Backed s) : RecordLaw (s.setCohort c (some x)) := by
  obtain ⟨hlane, hcohort, hentry⟩ := recordLaw_iff.mp h
  refine .of_parts s rfl rfl hlane (fun d y hy => ?_) hentry
  rw [State.cohort_setCohort] at hy
  split at hy
  · cases hy; exact hx
  · exact hcohort d y hy

theorem RecordLaw.setLane {s : State} (h : RecordLaw s) {i : Slot} {l : Lane} (hl : l.Backed s)
    (hf : l.family = (s.lane i).family) : RecordLaw (s.setLane i l) := by
  obtain ⟨hlane, hcohort, hentry⟩ := recordLaw_iff.mp h
  refine .of_parts s rfl rfl (fun m => ?_) hcohort fun k m e he => ?_ <;> rw [State.lane_setLane] <;>
    split
  · exact hl
  · exact hlane m
  · subst_vars; exact (hentry k _ e he).mono hf fun _ hm _ => hm
  · exact hentry k m e he

theorem RecordLaw.setEntry {s : State} (h : RecordLaw s) {k : SheetNo} {i : Slot} {e : StripEntry}
    (he : e.Backed s (s.lane i)) : RecordLaw (s.setEntry k i e) := by
  obtain ⟨hlane, hcohort, hentry⟩ := recordLaw_iff.mp h
  refine .of_parts s rfl rfl hlane hcohort fun m j e' he' => ?_
  rw [entry_setEntry] at he'
  split at he'
  · obtain ⟨-, rfl⟩ := ‹_ ∧ _›
    cases he'; exact he
  · exact hentry m j e' he'

/-- The lanes differ in their cohort alone, the cohorts are backed, and the sheets stay. -/
theorem RecordLaw.of_cohorts {s t : State} (h : RecordLaw s) (hf : t.families = s.families)
    (hl : t.lots = s.lots) (hs : t.sheets = s.sheets)
    (hlane : ∀ i, ∃ c, t.lane i = { s.lane i with cohort := c })
    (hcohort : ∀ c x, t.cohort c = some x → x.Backed s) : RecordLaw t := by
  obtain ⟨hb, -, hentry⟩ := recordLaw_iff.mp h
  refine .of_parts s hf hl (fun i => ?_) hcohort fun k i e he => ?_ <;> obtain ⟨c, hc⟩ := hlane i <;>
    rw [hc]
  · exact (hb i).of_eq rfl rfl rfl rfl rfl rfl rfl rfl rfl
  · unfold State.sheet at he
    rw [hs] at he
    exact (hentry k i e he).mono rfl fun _ hm _ => hm

/-- Every entry of a sheet was an entry of that sheet; the rest stays. -/
theorem RecordLaw.of_sheets {s t : State} (h : RecordLaw s) (hf : t.families = s.families)
    (hl : t.lots = s.lots) (hlanes : t.lanes = s.lanes) (hc : t.cohorts = s.cohorts)
    (hs : ∀ k, (t.sheet k).entries = (s.sheet k).entries ∨ (t.sheet k).entries = Table.fill 128 none) :
    RecordLaw t := by
  obtain ⟨hb, hcohort, hentry⟩ := recordLaw_iff.mp h
  have hlane : ∀ i, t.lane i = s.lane i := fun i => by unfold State.lane; rw [hlanes]
  refine .of_parts s hf hl (fun i => ?_) (fun c x hx => ?_) fun k i e he => ?_
  · rw [hlane]; exact hb i
  · unfold State.cohort at hx; rw [hc] at hx; exact hcohort c x hx
  · rw [hlane]
    rcases hs k with h | h <;> rw [h] at he
    · exact hentry k i e he
    · simp at he

/-- A family defined, or its pending settings set. -/
theorem PlansKept.setFamily {s : State} {f : FamilyId} {x : FamilyRecord}
    (h : (s.family f).active = none ∨
      ∃ act, (s.family f).active = some act ∧ x.active = some act) : PlansKept s (s.setFamily f x) := by
  intro g y hy
  rw [State.family_setFamily]
  split
  · subst_vars
    rcases h with h | ⟨act, hact, hx⟩
    · rw [h] at hy; cases hy
    · rw [hact] at hy; cases hy
      exact ⟨_, hx, rfl⟩
  · exact ⟨y, hy, rfl⟩

/-- The plans keep their sizes, the lots stay, and the rest is the same. -/
theorem RecordLaw.of_plans {s t : State} (h : RecordLaw s) (hp : PlansKept s t)
    (hlots : ∀ lot ∈ s.lots, lot ∈ t.lots) (hlanes : t.lanes = s.lanes) (hc : t.cohorts = s.cohorts)
    (hs : t.sheets = s.sheets) : RecordLaw t := by
  obtain ⟨hlane, hcohort, hentry⟩ := recordLaw_iff.mp h
  refine recordLaw_iff.mpr ⟨fun i => ?_, fun c x hx => ?_, fun k i e he => ?_⟩
  · unfold State.lane; rw [hlanes]
    exact (hlane i).mono hp fun lot hm _ => hlots lot hm
  · unfold State.cohort at hx; rw [hc] at hx
    exact (hcohort c x hx).mono hp
  · unfold State.sheet at he; rw [hs] at he
    unfold State.lane; rw [hlanes]
    exact (hentry k i e he).mono rfl fun lot hm _ => hlots lot hm

theorem RecordLaw.change {s u : State} (h : TableChange s u) (hs : Lawful s) : RecordLaw u := by
  have hr := hs.records
  obtain ⟨hlane, hcohort, hentry⟩ := recordLaw_iff.mp hr
  cases h with
  | configure p =>
    refine hr.of_sheets rfl rfl rfl rfl fun k => ?_
    rw [configure_sheet]
    split
    · exact .inr rfl
    · split
      · exact .inr rfl
      · exact .inl rfl
  | define f x _ hundef => exact hr.of_plans (.setFamily (.inl hundef)) (fun _ h => h) rfl rfl rfl
  | propose f x act _ hact =>
    exact hr.of_plans (.setFamily (.inr ⟨act, hact, rfl⟩)) (fun _ h => h) rfl rfl rfl
  | loadLot l act hl =>
    exact hr.of_plans (.of_eq rfl) (fun lot hm => (mem_insertLot hl.fresh).mpr (.inr hm)) rfl rfl rfl
  | dropLot code hfree => exact hr.dropLot hs.lanes hs.ring hfree
  | enrol i id f x hv _ hx =>
    have hvac : s.lane i = .vacant := hs.lanes.vacant i (vacantSlot_eq_some hv)
    have hat : ∀ m, (s.enrol i id f x).lane m = if i = m then .enrolled id f x else s.lane m :=
      fun m => s.lane_setLane i m _
    refine .of_parts s rfl rfl (fun m => ?_) hcohort fun k m e he => ?_ <;> rw [hat] <;> split
    · exact Lane.backed_enrolled id hx
    · exact hlane m
    · subst_vars
      obtain ⟨lot, -, -, hf, -⟩ := hentry k _ e he
      rw [hvac] at hf; cases hf
    · exact hentry k m e he
  | retire i _ hidle =>
    refine .of_parts s (by simp) (by simp) (fun m => ?_) (fun c x hx => ?_) fun k m e he => ?_
    · rw [retire_lane]
      split
      · exact Lane.backed_vacant s
      · exact hlane m
    · rcases hs.lanes.retire_cohort hx with ⟨hx', -⟩ | ⟨y, hy, rfl⟩
      · exact hcohort c x hx'
      · refine (hcohort c y hy).of_eq rfl (fun q hq => ?_) fun _ h => h
        unfold Cohort.without at hq
        dsimp only at hq
        split at hq
        · exact ‹y.mode = _›.trans hq
        · cases hq
    · obtain ⟨he', hne⟩ := retire_entry hs.queue hs.ring hidle he
      rw [retire_lane, if_neg (Ne.symm hne)]
      exact hentry k m e he'
  | editLane i l he => exact hr.setLane (he.backed hs.lanes hs.lots hr hs.stage) he.frame.2.1
  | formCohort r hadm =>
    refine hr.of_cohorts (by simp) (by simp) (by simp) (formCohort_lane_cases s r) fun c x hx => ?_
    rw [formCohort_cohort] at hx
    split at hx
    · cases hx
      obtain ⟨set, hset⟩ := hadm.family
      exact ⟨set, hset, fun cs hcs => (by cases hcs), hadm.quorum⟩
    · exact hcohort c x hx
  | dissolve c x =>
    refine hr.of_cohorts (by simp) (by simp) (by simp) (dissolve_lane_cases s c x.members) ?_
    intro d y hy
    rw [dissolve_cohort] at hy
    split at hy
    · cases hy
    · exact hcohort d y hy
  | center c x set day count k cs hx hset hcs =>
    obtain ⟨set', hset', -, hq⟩ := hcohort c x hx
    rw [hset] at hset'; cases hset'
    refine hr.setCohort ⟨set, hset, fun cs' h => ?_, hq⟩
    cases h; exact centersOf_length hcs
  | noCenter c x day hx =>
    refine hr.setCohort ?_
    unfold Cohort.noCenter
    split
    · exact (hcohort c x hx).of_eq rfl (fun _ h => h) fun cs h => (by cases h)
    · exact hcohort c x hx
  | fileEntry k i day e _ hfiled =>
    obtain ⟨lot, hm, hc, hf⟩ := (hlane i).lot hfiled.lot
    obtain ⟨x, hx, hlen⟩ := hfiled.raw
    exact hr.setEntry ⟨lot, hm, hc, hf, hlen.trans (hs.lots.published_length hm hf hx).1.symm,
      hfiled.densities, hfiled.rerun⟩
  | deviate k i day e x lot r he => exact hr.setEntry (hentry k i e he)
  | closeDay d k free =>
    refine hr.of_sheets rfl rfl rfl rfl fun m => ?_
    rw [closeDay_sheet]
    split
    · exact .inr rfl
    · split
      · subst_vars; exact .inl rfl
      · exact .inl rfl
  | endRebuild j i st c r =>
    refine (hr.setLane ?_ ?_ : RecordLaw (s.setLane i { s.lane i with chart := c })).congr rfl rfl rfl
      rfl rfl
    · exact (hlane i).of_eq rfl rfl rfl rfl rfl rfl rfl rfl rfl
    · rfl
  | startRebuild j rest i =>
    refine (hr.setLane ?_ ?_ : RecordLaw (s.setLane i (s.lane i).startRebuild)).congr (by simp)
      (by simp) (by simp) (by simp) (by simp)
    · exact (hlane i).of_eq rfl rfl rfl rfl rfl (List.length_map ..) rfl rfl rfl
    · rfl
  | startDay j rest d => exact hr.startDay hs.lanes hs.lots d
  | endDay j rest d =>
    refine hr.of_sheets rfl rfl rfl rfl fun k => ?_
    rw [show (({ s with sheets := s.sheets.map (Sheet.endDay d) } : State).finishJob j .done).sheet k =
      (s.sheet k).endDay d from Table.get_map ..]
    rcases (s.sheet k).endDay_cases d with ⟨h, -⟩ | ⟨h, -⟩ <;> rw [h]
    · exact .inl rfl
    · exact .inr rfl
  | resetUnit =>
    refine .of_parts s (by simp) (by simp) (fun i => ?_) (fun c x hx => ?_) fun k i e he => ?_
    · rw [resetUnit_lane]
      split
      · exact (hlane i).of_eq rfl rfl rfl rfl rfl rfl rfl rfl rfl
      · exact hlane i
    · unfold State.cohort at hx; rw [State.resetUnit_cohorts] at hx; exact hcohort c x hx
    · have he' : (s.sheet k).entries.get i = some e := by
        rw [resetUnit_sheet] at he
        unfold Sheet.warmReset at he
        split at he <;> exact he
      refine (hentry k i e he').mono ?_ fun _ hm _ => hm
      rw [resetUnit_lane]
      split <;> rfl
  | advance | raise => exact hr.congr (by simp) (by simp) (by simp) (by simp) (by simp)
  | _ => exact hr.congr rfl rfl rfl rfl rfl

end Sys2Proof.Machine

namespace Sys2Proof.Machine

/-! ### The law of the running DAY job (R61, R86, R103) -/

/-- The head of the queue is a RUNNING DAY job of a day, at a stage and position. -/
def State.RunsDay (s : State) (d : Nat) (st : Stage) : Prop :=
  ∃ j rest, s.queue = j :: rest ∧ j.kind = .day d ∧ j.state = .running st

/-- An entry holds its results: the lane's cohort, and one deviation for each entry of the plan. -/
def StripEntry.DeviatedFor (s : State) (i : Slot) (e : StripEntry) : Prop :=
  ∃ r, e.result = some r ∧ r.cohort = (s.lane i).cohort ∧
    ∀ f x, (s.lane i).family = some f → (s.family f).active = some x →
      r.devs.length = x.plan.length

theorem stageLaw_iff {s : State} : StageLaw s ↔ ∀ d st, s.RunsDay d st →
    ∀ k, (s.sheet k).state = .evaluating → (s.sheet k).day = some d →
    ∀ i e, (s.sheet k).entries.get i = some e → st.deviated i = true → e.DeviatedFor s i :=
  ⟨fun h d st ⟨j, rest, hq, hk, hs⟩ => h.deviated j rest d st hq hk hs,
    fun h => ⟨fun j rest d st hq hk hs => h d st ⟨j, rest, hq, hk, hs⟩⟩⟩

/-- While no DAY job runs there is nothing to say. -/
theorem StageLaw.of_idle {t : State} (h : ∀ d st, ¬ t.RunsDay d st) : StageLaw t :=
  stageLaw_iff.mpr fun d st hr => absurd hr (h d st)

/-- The running job, its sheet, and what the results are compared with stay. -/
theorem StageLaw.of_kept {s t : State} (h : StageLaw s)
    (hrun : ∀ d st, t.RunsDay d st → s.RunsDay d st)
    (hsheet : ∀ k i e, (t.sheet k).state = .evaluating → (t.sheet k).entries.get i = some e →
      (s.sheet k).state = .evaluating ∧ (s.sheet k).day = (t.sheet k).day ∧
        (s.sheet k).entries.get i = some e)
    (hdev : ∀ k i e, (s.sheet k).entries.get i = some e → e.DeviatedFor s i → e.DeviatedFor t i) :
    StageLaw t := by
  refine stageLaw_iff.mpr fun d st hr k hk hd i e he hst => ?_
  obtain ⟨hk', hd', he'⟩ := hsheet k i e hk he
  exact hdev k i e he' (stageLaw_iff.mp h d st (hrun d st hr) k hk' (hd'.trans hd) i e he' hst)

theorem RunsDay.congr {s t : State} (hq : t.queue = s.queue) (d : Nat) (st : Stage)
    (h : t.RunsDay d st) : s.RunsDay d st := by
  unfold State.RunsDay at h ⊢; rwa [← hq]

theorem StripEntry.DeviatedFor.of_eq {s t : State} {i : Slot} {e : StripEntry}
    (h : e.DeviatedFor s i) (hcoh : (t.lane i).cohort = (s.lane i).cohort)
    (hfam : (t.lane i).family = (s.lane i).family) (hf : t.families = s.families) :
    e.DeviatedFor t i := by
  obtain ⟨r, hr, hc, hd⟩ := h
  refine ⟨r, hr, hc.trans hcoh.symm, fun f x hfx hx => hd f x (hfam ▸ hfx) ?_⟩
  unfold State.family at hx ⊢
  rwa [← hf]

/-- The lanes keep their cohorts and families; all else that the law reads stays. -/
theorem StageLaw.of_lanes {s t : State} (h : StageLaw s)
    (hrun : ∀ d st, t.RunsDay d st → s.RunsDay d st) (hs : t.sheets = s.sheets)
    (hf : t.families = s.families) (hlane : ∀ i, (t.lane i).cohort = (s.lane i).cohort ∧
      (t.lane i).family = (s.lane i).family) : StageLaw t := by
  have hsheet : ∀ k, t.sheet k = s.sheet k := fun k => by unfold State.sheet; rw [hs]
  refine h.of_kept hrun (fun k i e hk he => ?_) fun k i e _ hd => hd.of_eq (hlane i).1 (hlane i).2 hf
  rw [hsheet] at hk he ⊢
  exact ⟨hk, rfl, he⟩

theorem StageLaw.congr {s t : State} (h : StageLaw s)
    (hrun : ∀ d st, t.RunsDay d st → s.RunsDay d st) (hs : t.sheets = s.sheets)
    (hf : t.families = s.families) (hl : t.lanes = s.lanes) : StageLaw t :=
  h.of_lanes hrun hs hf fun i => by unfold State.lane; rw [hl]; exact ⟨rfl, rfl⟩

/-- The families change, and each lane's plan keeps its size. -/
theorem StageLaw.of_plans {s t : State} (h : StageLaw s) (hr : RecordLaw s) (hp : PlansKept s t)
    (hrun : ∀ d st, t.RunsDay d st → s.RunsDay d st) (hs : t.sheets = s.sheets)
    (hl : t.lanes = s.lanes) : StageLaw t := by
  have hlane : ∀ i, t.lane i = s.lane i := fun i => by unfold State.lane; rw [hl]
  have hsheet : ∀ k, t.sheet k = s.sheet k := fun k => by unfold State.sheet; rw [hs]
  refine h.of_kept hrun (fun k i e hk he => ?_) fun k i e _ hd => ?_
  · rw [hsheet] at hk he ⊢; exact ⟨hk, rfl, he⟩
  · obtain ⟨r, hres, hc, hdevs⟩ := hd
    refine ⟨r, hres, by rw [hlane]; exact hc, fun f x hf hx => ?_⟩
    rw [hlane] at hf
    obtain ⟨y, hy, -⟩ := hr.laneFamily i f hf
    obtain ⟨z, hz, hlen⟩ := hp f y hy
    rw [hx] at hz; cases hz
    rw [hdevs f y hf hy, hlen]

/-- The results that DEVIATE computes are those that the law asks for (R61, R86). -/
theorem EntryDeviated.deviatedFor {s : State} (hr : RecordLaw s) (hlot : LotLaw s) {d : Nat} {i : Slot}
    {k : SheetNo} {e e' : StripEntry} (he : (s.sheet k).entries.get i = some e')
    (hsame : e'.lot = e.lot) (h : EntryDeviated s d i e) : e.DeviatedFor s i := by
  obtain ⟨x, lot, r, hx, hl, hdev, hres⟩ := h
  obtain ⟨lot', hm', hc', hf', -⟩ := hr.entry k i e' he
  obtain ⟨hm, hc⟩ := findLot_eq_some hl
  have hlot' : lot' = lot := hlot.eq_of_code hm' hm (by rw [hc', hc, hsame])
  subst hlot'
  have haims := (hlot.published_length hm hf' hx).2
  unfold deviateEntry at hdev
  obtain ⟨vs, hvs, rfl⟩ := Option.map_eq_some_iff.mp hdev
  refine ⟨_, hres, rfl, fun f y hf hy => ?_⟩
  have hset : s.laneSettings (s.lane i) = some y := laneSettings_eq_some.mpr ⟨f, hf, hy⟩
  rw [hx] at hset; cases hset
  simp [planValues_length hvs, haims]

theorem evaluatingSheet_of_ring {s : State} (hring : RingLaw s) {d : Nat} {k : SheetNo}
    (hk : (s.sheet k).state = .evaluating) (hd : (s.sheet k).day = some d) :
    s.evaluatingSheet d = some k := by
  refine Table.find_eq_some.mpr ⟨?_, fun m hm => ?_⟩
  · rw [show s.sheets.get k = s.sheet k from rfl, hk, hd]; simp
  · rw [Bool.eq_false_iff]
    intro hm'
    have hstate : (s.sheet m).state = .evaluating ∧ (s.sheet m).day = some d := by
      simpa [State.sheet] using hm'
    have := hring.daysDistinct k m (by simp [hk]) (hd.trans hstate.2.symm)
    exact absurd this.symm (ne_of_lt hm)

theorem not_runsDay_of_idle {s : State} (h : s.dayRunning = false) (d : Nat) (st : Stage) :
    ¬ s.RunsDay d st := by
  rintro ⟨j, rest, hq, hk, hs⟩
  unfold State.dayRunning at h
  rw [State.running_eq_some.mpr ⟨rest, hq, hs⟩] at h
  simp only [hk] at h
  cases h

/-- A job that leaves the queue leaves the running job of a day as it is, or it was that job. -/
theorem RunsDay.of_finishJob {s : State} (h : QueueLaw s) {j : Job} {r : JobResult} (hj : j ∈ s.queue)
    {d : Nat} {st : Stage} (hr : (s.finishJob j r).RunsDay d st) : s.RunsDay d st ∧
      ∀ st', j.state ≠ .running st' := by
  obtain ⟨x, rest, hq, hk, hs⟩ := hr
  have hx : x ∈ (s.finishJob j r).queue := hq ▸ List.mem_cons_self ..
  obtain ⟨hx', hne⟩ := (h.mem_finishJob hj).mp hx
  obtain ⟨rest', hq'⟩ := h.head_of_running hx' hs
  refine ⟨⟨x, rest', hq', hk, hs⟩, fun st' hst' => ?_⟩
  obtain ⟨rest'', hq''⟩ := h.head_of_running hj hst'
  rw [hq'] at hq''; cases hq''
  exact hne rfl

theorem RunsDay.of_joinJob {s : State} {k : JobKind} {d : Nat} {st : Stage}
    (hr : (s.joinJob k).RunsDay d st) : s.RunsDay d st := by
  obtain ⟨j, rest, hq, hk, hs⟩ := hr
  have hq' : s.queue ++ [⟨s.nextJobId, k, .queued⟩] = j :: rest := hq
  cases hsq : s.queue with
  | nil =>
    rw [hsq] at hq'
    cases hq'; cases hs
  | cons x xs =>
    rw [hsq] at hq'
    cases hq'
    exact ⟨_, _, hsq, hk, hs⟩

theorem StageLaw.advance {s : State} (hs : Lawful s) {j : Job} {rest : List Job} {st : Stage}
    (hq : s.queue = j :: rest) (hst : j.state = .running st)
    (hnew : ∀ d, j.kind = .day d → ∀ i, st.next.deviated i = true → st.deviated i = false →
      ∀ k e, s.evaluatingSheet d = some k → (s.sheet k).entries.get i = some e →
        EntryDeviated s d i e) : StageLaw (s.setStage st.next) := by
  have hlane : ∀ i, (s.setStage st.next).lane i = s.lane i := fun i => by
    unfold State.lane; rw [State.setStage_lanes]
  have hsheet : ∀ k, (s.setStage st.next).sheet k = s.sheet k := fun k => by
    unfold State.sheet; rw [State.setStage_sheets]
  refine stageLaw_iff.mpr fun d st' hr k hk hd i e he hdev => ?_
  rw [hsheet] at hk hd he
  obtain ⟨j', rest', hq', hkind, hst'⟩ := hr
  rw [State.setStage_queue hq] at hq'
  cases hq'; cases hst'
  have hfor : e.DeviatedFor s i := by
    cases hold : st.deviated i with
    | true => exact stageLaw_iff.mp hs.stage d st ⟨j, rest, hq, hkind, hst⟩ k hk hd i e he hold
    | false =>
      have hsome := evaluatingSheet_of_ring hs.ring hk hd
      exact (hnew d hkind i hdev hold k e hsome he).deviatedFor hs.records hs.lots he rfl
  exact hfor.of_eq (by rw [hlane]) (by rw [hlane]) (by simp)

theorem StageLaw.change {s u : State} (h : TableChange s u) (hs : Lawful s) : StageLaw u := by
  have hst := hs.stage
  cases h with
  | configure p =>
    refine hst.of_kept (fun _ _ h => h) (fun k i e hk he => ?_) fun _ _ _ _ h => h
    rw [configure_sheet] at hk he ⊢
    split at hk
    · cases hk
    · rename_i h1
      split at hk
      · cases hk
      · rename_i h0
        simp only [if_neg h1, if_neg h0] at he ⊢
        exact ⟨hk, trivial, he⟩
  | define f x _ hundef =>
    exact hst.of_plans hs.records (.setFamily (.inl hundef)) (fun _ _ h => h) rfl rfl
  | propose f x act _ hact =>
    exact hst.of_plans hs.records (.setFamily (.inr ⟨act, hact, rfl⟩)) (fun _ _ h => h) rfl rfl
  | enrol i id f x hv =>
    have hvac : s.lane i = .vacant := hs.lanes.vacant i (vacantSlot_eq_some hv)
    refine hst.of_kept (fun _ _ h => h) (fun k m e hk he => ⟨hk, rfl, he⟩) fun k m e he hd => ?_
    have hne : i ≠ m := by
      rintro rfl
      obtain ⟨lot, -, -, hf, -⟩ := hs.records.entry k i e he
      rw [hvac] at hf; cases hf
    have hat : (s.enrol i id f x).lane m = s.lane m := State.lane_setLane_ne s _ hne
    exact hd.of_eq (by rw [hat]) (by rw [hat]) rfl
  | retire i _ hidle =>
    refine .of_idle fun d st hr => not_runsDay_of_idle hidle d st ?_
    have hr' : (s.cancelRebuildOf i).RunsDay d st := RunsDay.congr (retire_queue s i) d st hr
    unfold State.cancelRebuildOf at hr'
    split at hr'
    · exact hr'
    · rename_i j hj
      exact (RunsDay.of_finishJob hs.queue (List.mem_of_find?_eq_some hj) hr').1
  | editLane i l he =>
    refine hst.of_lanes (fun _ _ h => h) rfl rfl fun m => ?_
    rw [State.lane_setLane]
    split
    · subst_vars; exact ⟨he.frame.2.2, he.frame.2.1⟩
    · exact ⟨rfl, rfl⟩
  | formCohort r hr =>
    exact .of_idle fun d st h =>
      not_runsDay_of_idle hr.idle d st (RunsDay.congr (by simp) d st h)
  | dissolve c x _ hidle =>
    exact .of_idle fun d st h => not_runsDay_of_idle hidle d st (RunsDay.congr (by simp) d st h)
  | fileEntry k i day e hk =>
    refine hst.of_kept (fun _ _ h => h) (fun m j e' hm he => ?_) fun _ _ _ _ h => h
    rw [sheet_setEntry] at hm he ⊢
    split at hm
    · have hstate : (s.sheet k).state = .evaluating := hm
      rw [(openSheet_eq_some hk).1] at hstate; cases hstate
    · rename_i hne
      simp only [if_neg hne] at he ⊢
      exact ⟨hm, trivial, he⟩
  | deviate k i day e x lot r he hk hx hl hdev =>
    refine stageLaw_iff.mpr fun d st hr m hm hd j e' he' hstage => ?_
    obtain ⟨hstate, hday⟩ := sheet_setEntry_frame s k m i { e with result := some r }
    rw [entry_setEntry] at he'
    split at he'
    · rename_i heq
      obtain ⟨rfl, rfl⟩ := heq
      cases he'
      refine StripEntry.DeviatedFor.of_eq (s := s) ?_ rfl rfl rfl
      exact EntryDeviated.deviatedFor (d := day) hs.records hs.lots he rfl ⟨x, lot, r, hx, hl, hdev, rfl⟩
    · exact stageLaw_iff.mp hst d st hr m (hstate ▸ hm) (hday ▸ hd) j e' he' hstage
  | advance j rest st hq hj hnew => exact StageLaw.advance hs hq hj hnew
  | closeDay d k free =>
    refine hst.of_kept (fun _ _ h => RunsDay.of_joinJob (RunsDay.congr rfl _ _ h))
      (fun m i e hm he => ?_) fun _ _ _ _ h => h
    rw [closeDay_sheet] at hm he ⊢
    split at hm
    · cases hm
    · rename_i h1
      split at hm
      · cases hm
      · rename_i h2
        simp only [if_neg h1, if_neg h2] at he ⊢
        exact ⟨hm, trivial, he⟩
  | joinRebuild i => exact hst.congr (fun _ _ h => RunsDay.of_joinJob h) rfl rfl rfl
  | cancelRebuild j i hj =>
    exact hst.congr (fun _ _ h => (RunsDay.of_finishJob hs.queue hj h).1) rfl rfl rfl
  | endRebuild j i st c r hj _ hrun =>
    have hq' : QueueLaw (s.setLane i { s.lane i with chart := c }) := hs.queue.congr rfl rfl rfl
    exact .of_idle fun d st' h => (RunsDay.of_finishJob hq' hj h).2 st hrun
  | startRebuild j rest i hq _ hk =>
    refine .of_idle fun d st ⟨j', rest', hq', hk', _⟩ => ?_
    rw [State.setStage_queue (s := s.setLane i (s.lane i).startRebuild) hq] at hq'
    cases hq'
    rw [show j.kind = .day d from hk'] at hk; cases hk
  | startDay j rest d hq =>
    refine stageLaw_iff.mpr fun d' st ⟨j', rest', hq', _, hst'⟩ k _ _ i e _ hdev => ?_
    rw [congrArg State.queue (State.startDayJob_eq d hq)] at hq'
    cases hq'; cases hst'
    simp [Stage.deviated] at hdev
  | endDay j rest d hq hrun =>
    have hq' : QueueLaw { s with sheets := s.sheets.map (Sheet.endDay d) } := hs.queue.congr rfl rfl rfl
    exact .of_idle fun d' st h =>
      (RunsDay.of_finishJob hq' (show j ∈ s.queue from hq ▸ List.mem_cons_self ..) h).2 _ hrun
  | resetUnit =>
    refine .of_idle fun d st ⟨j, rest, hq, hk, hrun⟩ => ?_
    have hm : (d, false) ∈ dayMarks s.resetUnit.queue :=
      running_iff_mem_dayMarks.mp ⟨j, hq ▸ List.mem_cons_self .., hk, by simp [hrun]⟩
    rw [dayMarks_resetUnit] at hm
    simp at hm
  | raise => exact hst.congr (RunsDay.congr (by simp)) (by simp) (by simp) (by simp)
  | _ => exact hst.congr (fun _ _ h => h) rfl rfl rfl

end Sys2Proof.Machine

namespace Sys2Proof.Machine

/-! ### A lawful state through every step -/

theorem Lawful.change {s u : State} (h : TableChange s u) (hs : Lawful s) : Lawful u where
  link := hs.link.change h
  queue := hs.queue.change h
  ring := hs.ring.change h hs.queue
  lanes := hs.lanes.change h hs.queue
  alerts := hs.alerts.change h
  bounds := hs.bounds.change h
  families := hs.families.change h
  lots := hs.lots.change h
  charts := hs.charts.change h hs.queue hs.lanes
  records := .change h hs
  stage := .change h hs

theorem QueueLaw.move {s t : State} (hs : QueueLaw s) (h : LinkMove s t) : QueueLaw t :=
  hs.congr h.tables.queue h.tables.nextJobId h.tables.finished

theorem RingLaw.move {s t : State} (hs : RingLaw s) (h : LinkMove s t) : RingLaw t :=
  hs.congr h.tables.configured h.tables.openDay h.tables.sheets h.tables.queue

theorem LaneLaw.move {s t : State} (hs : LaneLaw s) (h : LinkMove s t) : LaneLaw t :=
  hs.congr h.tables.lanes h.tables.directory h.tables.cohorts
    fun j hj _ hk => ⟨j, h.tables.queue ▸ hj, hk⟩

theorem ChartLaw.move {s t : State} (hs : ChartLaw s) (h : LinkMove s t) : ChartLaw t :=
  hs.congr h.tables.lanes (rebuildRunning_congr h.tables.queue)

/-- Beside the law of the links, a lawful state is lawful by its tables. -/
theorem Lawful.move {s t : State} (h : LinkMove s t) (hs : Lawful s) : Lawful t where
  link := h.law hs.link
  queue := hs.queue.move h
  ring := hs.ring.move h
  lanes := hs.lanes.move h
  alerts := hs.alerts.congr h.tables.alerts h.tables.nextSerial h.tables.overflow
  bounds := hs.bounds.congr h.tables.sheets h.tables.cohorts h.tables.lanes
  families := hs.families.congr h.tables.families
  lots := hs.lots.congr h.tables.families h.tables.lots
  charts := hs.charts.move h
  records := hs.records.congr h.tables.families h.tables.lots h.tables.lanes h.tables.cohorts
    h.tables.sheets
  stage := hs.stage.congr (RunsDay.congr h.tables.queue) h.tables.sheets h.tables.families
    h.tables.lanes

theorem Lawful.powerOn (pending : List Instr) (fresh : Nat) :
    Lawful { State.reset with pending := pending, fresh := fresh } := by
  have tables : SameTables State.reset { State.reset with pending := pending, fresh := fresh } := by
    constructor <;> rfl
  exact Lawful.reset.move ⟨tables, fun h => h.congr rfl rfl rfl rfl rfl⟩

/-- A step from a lawful state answers a lawful state. -/
theorem Lawful.step {s t : State} (hs : Lawful s) (e : step s = .next t) : Lawful t :=
  step_keeps Lawful.powerOn (fun _ _ h hs => hs.change h) (fun _ _ h hs => hs.move h) hs e

/-! ### Each law alone, with those it needs -/

/-- The laws of the sheet ring are kept by every step (R39, R40, R42, R96). -/
theorem RingLaw.step {s t : State} (hq : QueueLaw s) (hs : RingLaw s)
    (e : Machine.step s = .next t) : RingLaw t :=
  (step_keeps (P := fun s => QueueLaw s ∧ RingLaw s)
    (fun p n => ⟨(Lawful.powerOn p n).queue, (Lawful.powerOn p n).ring⟩)
    (fun _ _ h hs => ⟨hs.1.change h, hs.2.change h hs.1⟩)
    (fun _ _ m hs => ⟨hs.1.move m, hs.2.move m⟩) ⟨hq, hs⟩ e).2

/-- The laws of lanes, directory and cohorts, and of charts and histories, are kept by every step (R20,
R21, R26, R29, R79, R120, R122). -/
theorem LaneLaw.step {s t : State} (hq : QueueLaw s) (hs : LaneLaw s)
    (e : Machine.step s = .next t) : LaneLaw t :=
  (step_keeps (P := fun s => QueueLaw s ∧ LaneLaw s)
    (fun p n => ⟨(Lawful.powerOn p n).queue, (Lawful.powerOn p n).lanes⟩)
    (fun _ _ h hs => ⟨hs.1.change h, hs.2.change h hs.1⟩)
    (fun _ _ m hs => ⟨hs.1.move m, hs.2.move m⟩) ⟨hq, hs⟩ e).2

theorem ChartLaw.step {s t : State} (hq : QueueLaw s) (hl : LaneLaw s) (hs : ChartLaw s)
    (e : Machine.step s = .next t) : ChartLaw t :=
  (step_keeps (P := fun s => QueueLaw s ∧ LaneLaw s ∧ ChartLaw s)
    (fun p n => ⟨(Lawful.powerOn p n).queue, (Lawful.powerOn p n).lanes, (Lawful.powerOn p n).charts⟩)
    (fun _ _ h ⟨hq, hl, hs⟩ => ⟨hq.change h, hl.change h hq, hs.change h hq hl⟩)
    (fun _ _ m ⟨hq, hl, hs⟩ => ⟨hq.move m, hl.move m, hs.move m⟩) ⟨hq, hl, hs⟩ e).2.2

end Sys2Proof.Machine

namespace Sys2Proof.Machine

/-! ### No command of the executor faults -/

/-- The body of a command answers. -/
def Reply.Answered (r : Reply) : Prop := ∃ s st pl, r = .done s st pl

theorem Reply.answered_done (s : State) (st : Status) (pl : List Byte) :
    (Reply.done s st pl).Answered := ⟨s, st, pl, rfl⟩

theorem runCommand_next {c : Command} {body : Held → State → Reply} {s : State}
    (hb : ∀ h, executorCheck s h c = none → (body h s).Answered) :
    ∃ t, runCommand c body s = .next t := by
  unfold runCommand
  split
  · exact ⟨_, rfl⟩
  · split
    · exact ⟨_, rfl⟩
    · split
      · exact ⟨_, rfl⟩
      · obtain ⟨u, st, pl, hu⟩ := hb _ ‹_›
        rw [hu]
        exact ⟨_, rfl⟩

/-- A command for configured devices alone is performed by a configured device (R169). -/
theorem configured_of_executorCheck {s : State} {h : Held} {c : Command}
    (hc : executorCheck s h c = none) (ha : c.access ≠ .anyPort) : s.config.configured = true := by
  unfold executorCheck at hc
  split at hc
  · cases hc
  · rename_i hno
    simpa [ha] using hno

/-- The settings of a lane's family are there (R16, R20). -/
theorem Lawful.laneSettings {s : State} (hs : Lawful s) {i : Slot} (hi : (s.lane i).state ≠ .vacant) :
    ∃ x, s.laneSettings (s.lane i) = some x := by
  obtain ⟨f, hf⟩ := Option.isSome_iff_exists.mp (hs.lanes.named i hi).2
  obtain ⟨x, hx, -⟩ := hs.records.laneFamily i f hf
  exact ⟨x, laneSettings_eq_some.mpr ⟨f, hf, hx⟩⟩

theorem Lawful.laneSettings_of_findLane {s : State} (hs : Lawful s) {id : Identity} {i : Slot}
    (hi : s.findLane id = some i) : ∃ x, s.laneSettings (s.lane i) = some x :=
  hs.laneSettings (hs.lanes.live_of_mem_directory (findLane_eq_some hi))

/-- A configured device has a current day (R39, R41). -/
theorem RingLaw.openDay_of_configured {s : State} (h : RingLaw s)
    (hc : s.config.configured = true) : ∃ d, s.openDay = some d := by
  cases ho : s.openDay with
  | none =>
    have := (h.closedUntilConfigured ho).1
    rw [hc] at this; cases this
  | some d => exact ⟨d, rfl⟩

/-- A sheet is OPEN for each day of the window (R40). -/
theorem RingLaw.openSheet_of_window {s : State} (h : RingLaw s) {d day : Nat}
    (ho : s.openDay = some d) (h1 : ¬ day < d) (h2 : ¬ d + 1 < day) :
    ∃ k, s.openSheet day = some k := by
  obtain ⟨⟨k, hk, hkd⟩, m, hm, hmd⟩ := h.openPresent d ho
  have hfound : ∃ n, (s.sheet n).state = .opened ∧ (s.sheet n).day = some day := by
    rcases (show day = d ∨ day = d + 1 by omega) with rfl | rfl
    · exact ⟨k, hk, hkd⟩
    · exact ⟨m, hm, hmd⟩
  obtain ⟨n, hn, hnd⟩ := hfound
  cases hno : s.openSheet day with
  | some k => exact ⟨k, rfl⟩
  | none =>
    have := Table.find_eq_none.mp hno n
    rw [show s.sheets.get n = s.sheet n from rfl, hn, hnd] at this
    simp at this

/-- Of the four sheets two are OPEN, so with fewer than two closed one is FREE (R53). -/
theorem RingLaw.freeSheet_of_closed_lt {s : State} (h : RingLaw s) {d : Nat}
    (ho : s.openDay = some d) (hc : s.sheets.cells.countP Sheet.closed < 2) :
    ∃ k, s.freeSheet = some k := by
  cases hno : s.freeSheet with
  | some k => exact ⟨k, rfl⟩
  | none =>
    exfalso
    have hbusy : ∀ k, (s.sheet k).state ≠ .free := fun k hk => by
      have := Table.find_eq_none.mp hno k
      rw [show s.sheets.get k = s.sheet k from rfl, hk] at this
      simp at this
    obtain ⟨⟨k, hk, hkd⟩, m, hm, hmd⟩ := h.openPresent d ho
    have hall : (Finset.univ : Finset SheetNo) ⊆
        insert k (insert m (Finset.univ.filter fun n => (s.sheets.get n).closed = true)) := by
      intro n _
      simp only [Finset.mem_insert, Finset.mem_filter, Finset.mem_univ, true_and]
      by_cases hn : (s.sheet n).state = .opened
      · rcases h.openSheets d ho n hn with hd | hd
        · exact .inl (h.daysDistinct n k (hbusy n) (hd.trans hkd.symm))
        · exact .inr (.inl (h.daysDistinct n m (hbusy n) (hd.trans hmd.symm)))
      · refine .inr (.inr (Sheet.closed_iff.mpr ?_))
        cases hst : (s.sheet n).state with
        | free => exact absurd hst (hbusy n)
        | opened => exact absurd hst hn
        | closing => exact .inl hst
        | evaluating => exact .inr hst
    have hcard := Finset.card_le_card hall
    have h1 := Finset.card_insert_le k
      (insert m (Finset.univ.filter fun n => (s.sheets.get n).closed = true))
    have h2 := Finset.card_insert_le m
      (Finset.univ.filter fun n => (s.sheets.get n).closed = true)
    have hc' : (Finset.univ.filter fun n : SheetNo => (s.sheets.get n).closed = true).card < 2 := by
      rw [Table.countP_eq_card] at hc; exact hc
    simp only [Finset.card_univ, Fintype.card_fin] at hcard
    omega

theorem PlanEntry.InRange.patchesBelow {n : Nat} {e : PlanEntry} (h : e.InRange n) :
    e.shape.PatchesBelow n := by
  obtain ⟨-, -, -, hshape⟩ := h
  cases hsh : e.shape with
  | single a c => rw [hsh] at hshape; exact hshape
  | diff a b c => rw [hsh] at hshape; exact ⟨hshape.1, hshape.2.1⟩

theorem lotLoadBody_answered {h : Held} {s : State} (hs : Lawful s) : (lotLoadBody h s).Answered := by
  fun_cases lotLoadBody
  case case9 f hf hcode act hact hpend hlayout published pairs hvalues hdup hroom shifts hnone =>
    have hpatch : byteAt h.frame.payload 3 = act.patchCount := not_not.mp hlayout
    obtain ⟨aims, haims⟩ := lotAims_isSome (plan := act.plan) (n := act.patchCount) shifts
      (by rw [wordsAt_length, hpatch, Nat.mul_comm] : published.length = _)
      fun e he => ((hs.families.active f act hact).entries e he).patchesBelow
    rw [haims] at hnone; cases hnone
  all_goals exact ⟨_, _, _, rfl⟩

theorem readCohortBody_answered {h : Held} {s : State} (hs : Lawful s) :
    (readCohortBody h s).Answered := by
  fun_cases readCohortBody
  case case3 c hc x hx hnone =>
    obtain ⟨set, hset, -⟩ := hs.records.cohort c x hx
    rw [hset] at hnone; cases hnone
  all_goals exact ⟨_, _, _, rfl⟩

theorem laneResumeBody_answered {h : Held} {s : State} (hs : Lawful s) :
    (laneResumeBody h s).Answered := by
  fun_cases laneResumeBody
  case case3 i hi l hstate hnone =>
    have := (hs.lanes.suspendedFrom i).mp (not_not.mp hstate)
    rw [show (s.lane i).suspendedFrom = none from hnone] at this; cases this
  case case4 i hi l hstate st hnone hst =>
    obtain ⟨x, hx⟩ := hs.laneSettings (checkSlot_eq_ok hi)
    rw [show s.laneSettings (s.lane i) = none from hnone] at hx; cases hx
  all_goals exact ⟨_, _, _, rfl⟩

theorem readSlot_answered {s : State} (hs : Lawful s) (i : Slot) : (readSlot s i).Answered := by
  fun_cases readSlot
  case case2 l hlive hnone =>
    obtain ⟨x, hx⟩ := hs.laneSettings hlive
    rw [show s.laneSettings (s.lane i) = none from hnone] at hx; cases hx
  all_goals exact ⟨_, _, _, rfl⟩

theorem readLaneBody_answered {h : Held} {s : State} (hs : Lawful s) :
    (readLaneBody h s).Answered := by
  fun_cases readLaneBody
  case case2 | case4 => exact readSlot_answered hs _
  all_goals exact ⟨_, _, _, rfl⟩

theorem fileStrip_answered {p : List Byte} {s : State} (hs : Lawful s) {id : Identity} {i : Slot}
    (hi : s.findLane id = some i) {d day : Nat} (ho : s.openDay = some d) (h1 : ¬ day < d)
    (h2 : ¬ d + 1 < day) : (fileStrip p s i day).Answered := by
  fun_cases fileStrip
  case case4 l code lot hlot hnolot hhas hnone =>
    obtain ⟨x, hx⟩ := hs.laneSettings_of_findLane hi
    rw [show s.laneSettings (s.lane i) = none from hnone] at hx; cases hx
  case case7 l code lot hlot hnolot hhas x hx hpatch rev hrev hnone =>
    obtain ⟨k, hk⟩ := hs.ring.openSheet_of_window ho h1 h2
    rw [hk] at hnone; cases hnone
  all_goals exact ⟨_, _, _, rfl⟩

theorem stripReadBody_answered {h : Held} {s : State} (hs : Lawful s)
    (hc : s.config.configured = true) : (stripReadBody h s).Answered := by
  fun_cases stripReadBody
  case case3 hnone =>
    obtain ⟨d, hd⟩ := hs.ring.openDay_of_configured hc
    rw [hnone] at hd; cases hd
  case case6 p day i hi hstate d hd h1 h2 => exact fileStrip_answered hs hi hd h1 h2
  all_goals exact ⟨_, _, _, rfl⟩

theorem referenceReadBody_answered {h : Held} {s : State} (hs : Lawful s) :
    (referenceReadBody h s).Answered := by
  fun_cases referenceReadBody
  case case4 p i hi lot hlot hhas hnone =>
    obtain ⟨x, hx⟩ := hs.laneSettings_of_findLane hi
    rw [hnone] at hx; cases hx
  case case7 p i hi lot hlot hhas x hx hpatch rev hrev =>
    fun_cases storeReference <;> exact ⟨_, _, _, rfl⟩
  all_goals exact ⟨_, _, _, rfl⟩

theorem readSheetEntryBody_answered {h : Held} {s : State} (hs : Lawful s)
    (hc : s.config.configured = true) : (readSheetEntryBody h s).Answered := by
  fun_cases readSheetEntryBody
  case case2 hnone =>
    obtain ⟨d, hd⟩ := hs.ring.openDay_of_configured hc
    rw [hnone] at hd; cases hd
  case case5 p day i hi d hd h1 h2 hnone =>
    obtain ⟨k, hk⟩ := hs.ring.openSheet_of_window hd h1 h2
    rw [hk] at hnone; cases hnone
  all_goals exact ⟨_, _, _, rfl⟩

theorem closeDayBody_answered {h : Held} {s : State} (hs : Lawful s) :
    (closeDayBody h s).Answered := by
  fun_cases closeDayBody
  case case6 day hday hmax hclosed hroom hnone =>
    have hd := not_not.mp hday
    obtain ⟨k, hk⟩ := hs.ring.openSheet_of_window hd (lt_irrefl _) (Nat.not_lt.mpr (Nat.le_succ _))
    obtain ⟨free, hfree⟩ := hs.ring.freeSheet_of_closed_lt hd (not_le.mp hclosed)
    exact absurd hfree fun hfree => hnone k free hk hfree
  all_goals exact ⟨_, _, _, rfl⟩

end Sys2Proof.Machine

namespace Sys2Proof.Machine

/-! ### No step of the unit faults -/

theorem RingLaw.evaluatingSheet_of_runsDay {s : State} (h : RingLaw s) {d : Nat} {st : Stage}
    (hr : s.RunsDay d st) : ∃ k, s.evaluatingSheet d = some k ∧ (s.sheet k).state = .evaluating ∧
      (s.sheet k).day = some d := by
  obtain ⟨j, rest, hq, hk, hs⟩ := hr
  obtain ⟨k, hstate, hday⟩ := (h.evaluatingRuns d).mpr
    ⟨j, hq ▸ List.mem_cons_self .., hk, by rw [hs]; exact fun h => by cases h⟩
  exact ⟨k, evaluatingSheet_of_ring h hstate hday, hstate, hday⟩

theorem runsDay_of_stepping {s : State} {j : Job} {st : Stage} {d : Nat}
    (h : s.stepping = some (j, st)) (hk : j.kind.day? = some d) : s.RunsDay d st := by
  obtain ⟨-, rest, hq, hs⟩ := State.stepping_eq_some.mp h
  exact ⟨j, rest, hq, JobKind.day?_eq_some.mp hk, hs⟩

theorem stepTo_of_ok {st : Stage} {r : Except Fault State} (h : ∃ u, r = .ok u) :
    ∃ t, stepTo st r = .next t := by
  obtain ⟨u, rfl⟩ := h
  exact ⟨_, rfl⟩

/-- The settings and the lot that the entry of a sheet needs are there (R16, R24). -/
theorem Lawful.entry_records {s : State} (hs : Lawful s) {k : SheetNo} {i : Slot} {e : StripEntry}
    (he : (s.sheet k).entries.get i = some e) : ∃ x lot, s.laneSettings (s.lane i) = some x ∧
      s.findLot e.lot = some lot ∧ lot ∈ s.lots ∧ lot.code = e.lot ∧
      (∀ p ∈ x.plan, p.shape.PatchesBelow x.patchCount) ∧ lot.published.length = 3 * x.patchCount ∧
      e.raw.length = lot.published.length := by
  obtain ⟨lot, hm, hc, hf, hraw, -⟩ := hs.records.entry k i e he
  obtain ⟨x, hx, -⟩ := hs.records.laneFamily i lot.family hf
  have hset : s.laneSettings (s.lane i) = some x := laneSettings_eq_some.mpr ⟨_, hf, hx⟩
  obtain ⟨lot', hlot'⟩ := Option.isSome_iff_exists.mp (findLot_isSome_iff.mpr ⟨lot, hm, hc⟩)
  obtain ⟨hm', hc'⟩ := findLot_eq_some hlot'
  have hsame : lot' = lot := hs.lots.eq_of_code hm' hm (hc'.trans hc.symm)
  subst hsame
  exact ⟨x, lot', hset, hlot', hm, hc,
    fun p hp => ((hs.families.active _ x hx).entries p hp).patchesBelow,
    (hs.lots.published_length hm hf hset).1, hraw⟩

/-- A lane's offsets for a lot have one element for each published density (R29). -/
theorem Lawful.offsetsFor_length {s : State} (hs : Lawful s) {i : Slot} {lot : LotRecord}
    (hm : lot ∈ s.lots) {os : List Int} (h : (s.lane i).offsetsFor lot.code = some os) :
    os.length = lot.published.length := by
  unfold Lane.offsetsFor at h
  split at h
  · rename_i heff
    obtain ⟨lot', hm', he, hlen⟩ := hs.records.effOffsets i os h
    rw [heff] at he
    rw [hlen, hs.lots.eq_of_code hm' hm (Option.some.inj he).symm]
  · split at h
    · rename_i hpend
      obtain ⟨lot', hm', he, hlen⟩ := hs.records.pendOffsets i os h
      rw [hpend] at he
      rw [hlen, hs.lots.eq_of_code hm' hm (Option.some.inj he).symm]
    · cases h

theorem correct_length {n : Nat} {raw : List Nat} {os : Option (List Int)} (hr : raw.length = n)
    (ho : ∀ o, os = some o → o.length = n) : (correct raw os).length = n := by
  cases os with
  | none => simp [correct, hr]
  | some o => simp [correct, hr, ho o rfl]

theorem deviateSlot_ok {s : State} (hs : Lawful s) (day : Nat) (k : SheetNo) (i : Slot) :
    ∃ u, deviateSlot s day k i = .ok u := by
  unfold deviateSlot
  cases he : (s.sheet k).entries.get i with
  | none => exact ⟨s, rfl⟩
  | some e =>
    obtain ⟨x, lot, hx, hlot, hm, hc, hplan, hpub, hraw⟩ := hs.entry_records he
    obtain ⟨vs, hvs⟩ := planValues_isSome (plan := x.plan) (n := x.patchCount)
      (ds := (correct e.raw ((s.lane i).offsetsFor e.lot)).map clampDensity)
      (by
        rw [List.length_map]
        refine correct_length (hraw.trans hpub) fun os hos => ?_
        rw [← hc] at hos
        rw [hs.offsetsFor_length hm hos, hpub]) hplan
    have hdev : ∃ r, deviateEntry day (s.lane i) x lot e = some r := by
      unfold deviateEntry; dsimp only; rw [hvs]; exact ⟨_, rfl⟩
    obtain ⟨r, hr⟩ := hdev
    simp only [hx, hlot, hr]
    exact ⟨_, rfl⟩

/-- Every contributor has one deviation for each entry of the cohort's plan (R61, R79, R87). -/
theorem Lawful.contributor_length {s : State} (hs : Lawful s) {d : Nat} {c c' : CohortId}
    {x : Cohort} {set : Settings} {k : SheetNo} (hrun : s.RunsDay d (.center c'))
    (hk : (s.sheet k).state = .evaluating) (hd : (s.sheet k).day = some d)
    (hx : s.cohort c = some x) (hset : (s.family x.family).active = some set) {ds : List Int}
    (h : ds ∈ contributors c x (s.sheet k)) : ds.length = set.plan.length := by
  obtain ⟨i, e, r, he, hr, hc, rfl⟩ := mem_contributors h
  obtain ⟨r', hr', hcoh, hlen⟩ := stageLaw_iff.mp hs.stage d _ hrun k hk hd i e he rfl
  rw [hr] at hr'; cases hr'
  rw [hcoh] at hc
  obtain ⟨y, hy, hm⟩ := (hs.lanes.membership i c).mp hc
  rw [hx] at hy; cases hy
  exact hlen _ set (hs.lanes.memberFamily c x hx i hm) hset

theorem median_isSome {vs : List Int} (h : vs ≠ []) : ∃ v, median vs = some v := by
  have hpos : 0 < (sortAscending vs).length := by
    rw [(sortAscending_perm vs).length_eq]; exact List.length_pos_iff.mpr h
  unfold median
  dsimp only
  split
  · exact ⟨_, List.getElem?_eq_getElem (Nat.div_lt_self hpos (by decide))⟩
  · rw [List.getElem?_eq_getElem (Nat.div_lt_self hpos (by decide)),
      List.getElem?_eq_getElem (show (sortAscending vs).length / 2 - 1 < _ by omega)]
    exact ⟨_, rfl⟩

/-- Contributors that have every parameter have a center (R88). -/
theorem centersOf_isSome {n : Nat} {ds : List (List Int)} (hne : ds ≠ [])
    (hlen : ∀ d ∈ ds, d.length = n) : ∃ cs, centersOf n ds = some cs := by
  refine allSome_isSome_iff.mpr fun o ho => ?_
  obtain ⟨i, hi, rfl⟩ := List.mem_map.mp ho
  have hin : i < n := List.mem_range.mp hi
  have hpresent : ∀ o ∈ ds.map fun d => d[i]?, o.isSome = true := fun o ho => by
    obtain ⟨d, hd, rfl⟩ := List.mem_map.mp ho
    rw [List.getElem?_eq_getElem (by rw [hlen d hd]; exact hin)]; rfl
  obtain ⟨vs, hvs⟩ := allSome_isSome_iff.mpr hpresent
  have hvne : vs ≠ [] := by
    rintro rfl
    have := allSome_length hvs
    rw [List.length_map] at this
    exact hne (List.eq_nil_of_length_eq_zero this.symm)
  obtain ⟨v, hv⟩ := median_isSome hvne
  unfold centerOf
  rw [hvs]
  dsimp only
  rw [hv]; rfl

/-- A quorum, or an anchor's one reading, is at least one contributor (R88, R89). -/
theorem RecordLaw.pos_of_enough {s : State} (h : RecordLaw s) {c : CohortId} {x : Cohort} {n : Nat}
    (hx : s.cohort c = some x) (he : enough x n = true) : 0 < n := by
  obtain ⟨set, -, -, hq⟩ := h.cohort c x hx
  unfold enough at he
  split at he
  · rename_i q hmode
    have := hq q hmode
    have : q ≤ n := by simpa using he
    omega
  · have : n = 1 := by simpa using he
    omega

theorem centerCohort_ok {s : State} (hs : Lawful s) {d : Nat} {c : CohortId} {k : SheetNo}
    (hrun : s.RunsDay d (.center c)) (hk : (s.sheet k).state = .evaluating)
    (hd : (s.sheet k).day = some d) : ∃ u, centerCohort s d k c = .ok u := by
  unfold centerCohort
  cases hx : s.cohort c with
  | none => exact ⟨s, rfl⟩
  | some x =>
    obtain ⟨set, hset, -⟩ := hs.records.cohort c x hx
    simp only [hset]
    split
    · rename_i henough
      have hne : contributors c x (s.sheet k) ≠ [] :=
        List.length_pos_iff.mp (hs.records.pos_of_enough hx henough)
      obtain ⟨cs, hcs⟩ := centersOf_isSome (n := set.plan.length) hne
        fun ds hds => hs.contributor_length hrun hk hd hx hset hds
      simp only [hcs]
      exact ⟨_, rfl⟩
    · exact ⟨_, rfl⟩

theorem applyReading_ok {s : State} {day : Nat} {i : Slot} {l : Lane} {x : Settings} {e : StripEntry}
    {switched : Bool} (hr : e.result.isSome = true) (hc : l.chart ≠ .rebuilding) :
    ∃ u, applyReading s day i l x e switched = .ok u := by
  obtain ⟨r, hr⟩ := Option.isSome_iff_exists.mp hr
  unfold applyReading
  rw [hr]
  dsimp only
  rw [if_neg hc]
  exact ⟨_, rfl⟩

/-- A SETTLING or TRACKING lane has an effective lot (R35). -/
theorem applyMissing_ok {s : State} (hs : Lawful s) (day : Nat) (i : Slot) (x : Settings)
    (withdrawn : Bool) : ∃ u, applyMissing s day i (s.lane i) x withdrawn = .ok u := by
  unfold applyMissing
  split
  · rename_i hstate
    obtain ⟨lot, hlot⟩ := Option.isSome_iff_exists.mp
      (hs.records.effective i (s.lane i).state (.inl rfl) hstate)
    rw [hlot]
    exact ⟨_, rfl⟩
  · exact ⟨_, rfl⟩

/-- The lot check and what follows it find all they read (R61, R122). -/
theorem applyLots_ok {s : State} (hs : Lawful s) {d : Nat} {i m : Slot} {k : SheetNo} {x : Settings}
    (hrun : s.RunsDay d (.apply m)) (hk : (s.sheet k).state = .evaluating)
    (hd : (s.sheet k).day = some d) :
    ∃ u, applyLots s d i (s.lane i) x ((s.sheet k).entries.get i) = .ok u := by
  have hchart : (s.lane i).chart ≠ .rebuilding := by
    obtain ⟨j, rest, hq, hkind, -⟩ := hrun
    exact hs.charts.not_rebuilding (rebuildRunning_of_day hq hkind i)
  have hresult : ∀ e, (s.sheet k).entries.get i = some e → e.result.isSome = true := fun e he => by
    obtain ⟨r, hr, -⟩ := stageLaw_iff.mp hs.stage d _ hrun k hk hd i e he rfl
    rw [hr]; rfl
  unfold applyLots
  split
  · exact applyMissing_ok hs ..
  · rename_i e he
    split
    · exact applyReading_ok (hresult e he) hchart
    · split
      · exact applyReading_ok (hresult e he) hchart
      · exact applyMissing_ok hs ..

theorem applySlot_ok {s : State} (hs : Lawful s) {d : Nat} {i m : Slot} {k : SheetNo}
    (hrun : s.RunsDay d (.apply m)) (hk : (s.sheet k).state = .evaluating)
    (hd : (s.sheet k).day = some d) : ∃ u, applySlot s d k i = .ok u := by
  fun_cases applySlot
  case case4 l e htaken _ _ hnone =>
    have hlive : (s.lane i).state ≠ .vacant := fun hv => htaken (by
      unfold takenByApply
      rw [show l.state = .vacant from hv]; rfl)
    obtain ⟨x, hx⟩ := hs.laneSettings hlive
    rw [show s.laneSettings (s.lane i) = none from hnone] at hx; cases hx
  case case5 l e _ _ _ x hx => exact applyLots_ok hs hrun hk hd
  all_goals exact ⟨s, rfl⟩

theorem replayEntry_ok {s : State} (hs : Lawful s) {i : Slot} (hi : (s.lane i).state ≠ .vacant)
    (x : HistoryEntry) : ∃ u, replayEntry s i x = .ok u := by
  obtain ⟨set, hset⟩ := hs.laneSettings hi
  unfold replayEntry
  rw [hset]
  exact ⟨_, rfl⟩

theorem execDeviateStep_next {s : State} (hs : Lawful s) : ∃ t, execDeviateStep s = .next t := by
  fun_cases execDeviateStep
  case case2 j i hst d hkind hnone =>
    obtain ⟨k, hk, -⟩ := hs.ring.evaluatingSheet_of_runsDay (runsDay_of_stepping hst hkind)
    rw [hnone] at hk; cases hk
  case case3 => exact stepTo_of_ok (deviateSlot_ok hs ..)
  all_goals exact ⟨s, rfl⟩

theorem execCenterStep_next {s : State} (hs : Lawful s) : ∃ t, execCenterStep s = .next t := by
  fun_cases execCenterStep
  case case2 j c hst d hkind hnone =>
    obtain ⟨k, hk, -⟩ := hs.ring.evaluatingSheet_of_runsDay (runsDay_of_stepping hst hkind)
    rw [hnone] at hk; cases hk
  case case3 j c hst d hkind k hk =>
    obtain ⟨hstate, hday⟩ := evaluatingSheet_eq_some hk
    exact stepTo_of_ok (centerCohort_ok hs (runsDay_of_stepping hst hkind) hstate hday)
  all_goals exact ⟨s, rfl⟩

theorem execApplyStep_next {s : State} (hs : Lawful s) : ∃ t, execApplyStep s = .next t := by
  fun_cases execApplyStep
  case case2 j i hst d hkind hnone =>
    obtain ⟨k, hk, -⟩ := hs.ring.evaluatingSheet_of_runsDay (runsDay_of_stepping hst hkind)
    rw [hnone] at hk; cases hk
  case case3 j i hst d hkind k hk =>
    obtain ⟨hstate, hday⟩ := evaluatingSheet_eq_some hk
    exact stepTo_of_ok (applySlot_ok hs (runsDay_of_stepping hst hkind) hstate hday)
  all_goals exact ⟨s, rfl⟩

theorem execReplayStep_next {s : State} (hs : Lawful s) : ∃ t, execReplayStep s = .next t := by
  fun_cases execReplayStep
  case case3 j n hst i hkind x hx =>
    obtain ⟨-, rest, hq, -⟩ := State.stepping_eq_some.mp hst
    exact stepTo_of_ok (replayEntry_ok hs (hs.lanes.rebuildNamesLane j (hq ▸ List.mem_cons_self ..) i
      (JobKind.lane?_eq_some.mp hkind)) x)
  all_goals exact ⟨s, rfl⟩

/-! ### Every step from a lawful state answers -/

theorem exec_next {s : State} (hs : Lawful s) (c : Instr) : ∃ t, exec c s = .next t := by
  cases c with
  | powerOn | frameArrival | linkClear => exact ⟨_, rfl⟩
  | warmReset => show ∃ t, execWarmReset s = .next t; fun_cases execWarmReset <;> exact ⟨_, rfl⟩
  | resetRelease =>
    show ∃ t, execResetRelease s = .next t; fun_cases execResetRelease <;> exact ⟨_, rfl⟩
  | selectAssert p =>
    show ∃ t, execSelectAssert p s = .next t; fun_cases execSelectAssert <;> exact ⟨_, rfl⟩
  | responseSent p =>
    show ∃ t, execResponseSent p s = .next t; fun_cases execResponseSent <;> exact ⟨_, rfl⟩
  | unknownCommand =>
    show ∃ t, execUnknownCommand s = .next t; fun_cases execUnknownCommand <;> exact ⟨_, rfl⟩
  | identify => exact runCommand_next (body := identifyBody) fun h _ => Reply.answered_done ..
  | status => exact runCommand_next (body := statusBody) fun h _ => Reply.answered_done ..
  | configure =>
    exact runCommand_next fun h _ => by fun_cases configureBody <;> exact ⟨_, _, _, rfl⟩
  | attentionSet =>
    exact runCommand_next fun h _ => by fun_cases attentionSetBody <;> exact ⟨_, _, _, rfl⟩
  | jobStatus =>
    exact runCommand_next fun h _ => by fun_cases jobStatusBody <;> exact ⟨_, _, _, rfl⟩
  | familySet =>
    exact runCommand_next fun h _ => by fun_cases familySetBody <;> exact ⟨_, _, _, rfl⟩
  | familyGet =>
    exact runCommand_next fun h _ => by fun_cases familyGetBody <;> exact ⟨_, _, _, rfl⟩
  | lotLoad => exact runCommand_next fun h _ => lotLoadBody_answered hs
  | lotDrop => exact runCommand_next fun h _ => by fun_cases lotDropBody <;> exact ⟨_, _, _, rfl⟩
  | lotGet => exact runCommand_next fun h _ => by fun_cases lotGetBody <;> exact ⟨_, _, _, rfl⟩
  | laneEnrol =>
    exact runCommand_next fun h _ => by fun_cases laneEnrolBody <;> exact ⟨_, _, _, rfl⟩
  | laneRetire =>
    exact runCommand_next fun h _ => by fun_cases laneRetireBody <;> exact ⟨_, _, _, rfl⟩
  | lotAssign =>
    exact runCommand_next fun h _ => by fun_cases lotAssignBody <;> exact ⟨_, _, _, rfl⟩
  | laneSuspend =>
    exact runCommand_next fun h _ => by fun_cases laneSuspendBody <;> exact ⟨_, _, _, rfl⟩
  | laneResume => exact runCommand_next fun h _ => laneResumeBody_answered hs
  | readLane => exact runCommand_next fun h _ => readLaneBody_answered hs
  | cohortSet =>
    exact runCommand_next fun h _ => by fun_cases cohortSetBody <;> exact ⟨_, _, _, rfl⟩
  | cohortDissolve =>
    exact runCommand_next fun h _ => by fun_cases cohortDissolveBody <;> exact ⟨_, _, _, rfl⟩
  | readCohort => exact runCommand_next fun h _ => readCohortBody_answered hs
  | stripRead =>
    exact runCommand_next fun h hc =>
      stripReadBody_answered hs (configured_of_executorCheck hc (by decide))
  | referenceRead => exact runCommand_next fun h _ => referenceReadBody_answered hs
  | readSheetEntry =>
    exact runCommand_next fun h hc =>
      readSheetEntryBody_answered hs (configured_of_executorCheck hc (by decide))
  | closeDay => exact runCommand_next fun h _ => closeDayBody_answered hs
  | rebuild => exact runCommand_next fun h _ => by fun_cases rebuildBody <;> exact ⟨_, _, _, rfl⟩
  | cancelJob =>
    exact runCommand_next fun h _ => by fun_cases cancelJobBody <;> exact ⟨_, _, _, rfl⟩
  | readChart =>
    exact runCommand_next fun h _ => by fun_cases readChartBody <;> exact ⟨_, _, _, rfl⟩
  | excludeDay =>
    exact runCommand_next fun h _ => by fun_cases excludeDayBody <;> exact ⟨_, _, _, rfl⟩
  | listAlerts =>
    exact runCommand_next fun h _ => by fun_cases listAlertsBody <;> exact ⟨_, _, _, rfl⟩
  | ackAlert =>
    exact runCommand_next fun h _ => by fun_cases ackAlertBody <;> exact ⟨_, _, _, rfl⟩
  | dayJobStart =>
    show ∃ t, execDayJobStart s = .next t; fun_cases execDayJobStart <;> exact ⟨_, rfl⟩
  | deviateStep => exact execDeviateStep_next hs
  | centerStep => exact execCenterStep_next hs
  | applyStep => exact execApplyStep_next hs
  | dayJobEnd => show ∃ t, execDayJobEnd s = .next t; fun_cases execDayJobEnd <;> exact ⟨_, rfl⟩
  | rebuildStart =>
    show ∃ t, execRebuildStart s = .next t; fun_cases execRebuildStart <;> exact ⟨_, rfl⟩
  | replayStep => exact execReplayStep_next hs
  | rebuildEnd => show ∃ t, execRebuildEnd s = .next t; fun_cases execRebuildEnd <;> exact ⟨_, rfl⟩
  | pulseStart p =>
    show ∃ t, execPulseStart p s = .next t; fun_cases execPulseStart <;> exact ⟨_, rfl⟩
  | pulseEnd p => show ∃ t, execPulseEnd p s = .next t; fun_cases execPulseEnd <;> exact ⟨_, rfl⟩

theorem Lawful.step_next {s : State} (hs : Lawful s) : ∃ t, Machine.step s = .next t := by
  unfold Machine.step
  split
  · exact ⟨s, rfl⟩
  · rename_i c rest _
    exact exec_next (hs.move (.pending s rest)) c

/-- Settles O60: the laws of families and of lots are kept by every change alone, and a lawful state
answers (`Lawful.step_next`) with a lawful state (`Lawful.step`). -/
theorem lawfulStepsNeverFault : Obligations.LawfulStepsNeverFault :=
  ⟨fun _ _ => FamilyLaw.step, fun _ _ => LotLaw.step, fun _ hs =>
    let ⟨t, ht⟩ := hs.step_next
    ⟨t, ht, hs.step ht⟩⟩

end Sys2Proof.Machine

namespace Sys2Proof.Machine

/-! ### Lanes, directory, cohorts and charts through every step -/

/-- Settles O56: every step is a chain of table changes and link moves, and each of them keeps the two
laws (`LaneLaw.step`, `ChartLaw.step`). -/
theorem laneLawKept : Obligations.LaneLawKept :=
  fun _ _ hq hl e => ⟨LaneLaw.step hq hl e, fun hc => ChartLaw.step hq hl hc e⟩

end Sys2Proof.Machine

namespace Sys2Proof.Machine

/-! ### The slot checks (R22) -/

theorem checkSlot_badValue {s : State} {n : Nat} (h : 127 < n) :
    s.checkSlot n = .error .badValue := by
  simp [State.checkSlot, idOf_eq_none.mpr h]

section
variable {s : State} {n : Nat} {i : Slot} (hn : n = i.val)
include hn

theorem checkSlot_unknownLane (hv : (s.lane i).state = .vacant) :
    s.checkSlot n = .error .unknownLane := by
  simp [State.checkSlot, idOf_eq_some.mpr hn, hv]

theorem checkSlot_ok (hv : (s.lane i).state ≠ .vacant) : s.checkSlot n = .ok i := by
  simp [State.checkSlot, idOf_eq_some.mpr hn, hv]

end

/-! ### LANE ENROL (R23, R24) -/

/-- The directory gives a slot to an identity exactly when it holds the identity (R21). -/
theorem findLane_isSome_iff {s : State} {id : Identity} :
    (s.findLane id).isSome = true ↔ ∃ i, (id, i) ∈ s.directory := by
  constructor
  · intro h
    obtain ⟨i, hi⟩ := Option.isSome_iff_exists.mp h
    exact ⟨i, findLane_eq_some hi⟩
  · rintro ⟨i, hm⟩
    by_contra hnone
    exact findLane_eq_none (by simpa using hnone) i hm

theorem vacantSlot_eq_none {s : State} (h : ∀ i, (s.lane i).state ≠ .vacant) :
    s.vacantSlot = none :=
  Table.find_eq_none.mpr fun i => beq_eq_false_iff_ne.mpr (h i)

theorem vacantSlot_of_lowest {s : State} {i : Slot} (hi : (s.lane i).state = .vacant)
    (hlow : ∀ j, j < i → (s.lane j).state ≠ .vacant) : s.vacantSlot = some i :=
  Table.find_eq_some.mpr ⟨beq_iff_eq.mpr hi, fun j hj => beq_eq_false_iff_ne.mpr (hlow j hj)⟩

theorem laneEnrolBody_badValue {h : Held} {s : State}
    (hb : wordAt h.frame.payload 0 = 0 ∨ 3 < byteAt h.frame.payload 2 ∨
      3 < byteAt h.frame.payload 3) : laneEnrolBody h s = .refuse s .badValue := by
  unfold laneEnrolBody
  dsimp only
  split
  · rfl
  · rename_i f hf
    rcases hb with hb | hb | hb
    · rw [if_pos (.inl hb)]
    · rw [if_pos (.inr hb)]
    · rw [idOf_eq_none.mpr hb] at hf; cases hf

section
variable {h : Held} {s : State} {f : FamilyId} (hstore : wordAt h.frame.payload 0 ≠ 0)
  (hproc : byteAt h.frame.payload 2 ≤ 3) (hf : byteAt h.frame.payload 3 = f.val)
include hstore hproc hf

theorem laneEnrolBody_unknownFamily (ha : (s.family f).active = none) :
    laneEnrolBody h s = .refuse s .unknownFamily := by
  simp [laneEnrolBody, idOf_eq_some.mpr hf, hstore, hproc, ha]

variable {x : Settings} (ha : (s.family f).active = some x)
include ha

theorem laneEnrolBody_duplicate
    (hd : (s.findLane ⟨wordAt h.frame.payload 0, byteAt h.frame.payload 2⟩).isSome = true) :
    laneEnrolBody h s = .refuse s .duplicate := by
  simp [laneEnrolBody, idOf_eq_some.mpr hf, hstore, hproc, ha, hd]

variable (hnew : s.findLane ⟨wordAt h.frame.payload 0, byteAt h.frame.payload 2⟩ = none)
include hnew

theorem laneEnrolBody_full (hv : s.vacantSlot = none) :
    laneEnrolBody h s = .refuse s .full := by
  simp [laneEnrolBody, idOf_eq_some.mpr hf, hstore, hproc, ha, hnew, hv]

theorem laneEnrolBody_ok {i : Slot} (hv : s.vacantSlot = some i) :
    laneEnrolBody h s = .done
      (s.enrol i ⟨wordAt h.frame.payload 0, byteAt h.frame.payload 2⟩ f x) .ok (u8 i.val) := by
  simp [laneEnrolBody, idOf_eq_some.mpr hf, hstore, hproc, ha, hnew, hv]

end

/-- Settles O26: the checks one by one, then the record of R24 in the lowest VACANT slot. -/
theorem laneEnrolOutcome : Obligations.LaneEnrolOutcome := by
  intro s h r
  refine ⟨fun hb => runCommand_refuse r (laneEnrolBody_badValue hb), fun f hstore hproc hf =>
    ⟨fun ha => runCommand_refuse r (laneEnrolBody_unknownFamily hstore hproc hf ha),
      fun x ha => ⟨fun hd => ?_, fun hd => ?_⟩⟩⟩
  · exact runCommand_refuse r
      (laneEnrolBody_duplicate hstore hproc hf ha (findLane_isSome_iff.mpr hd))
  have hnew := Option.not_isSome_iff_eq_none.mp (mt findLane_isSome_iff.mp (not_exists.mpr hd))
  refine ⟨fun hfull => ?_, fun i hi hlow => ?_⟩
  · exact runCommand_refuse r
      (laneEnrolBody_full hstore hproc hf ha hnew (vacantSlot_eq_none hfull))
  · exact runCommand_done r
      (laneEnrolBody_ok hstore hproc hf ha hnew (vacantSlot_of_lowest hi hlow))

/-! ### LOT ASSIGN (R27) -/

section
variable {code : Nat} {l : Lane}

theorem Lane.assign_effective (he : l.effective = some code) :
    l.assign code = ({ l with pendingLot := none, pendOffsets := none }, 0) := if_pos he

variable (he : l.effective ≠ some code)
include he

theorem Lane.assign_pending (hp : l.pendingLot = some code) : l.assign code = (l, 1) := by
  simp [Lane.assign, he, hp]

theorem Lane.assign_other (hp : l.pendingLot ≠ some code) :
    l.assign code = ({ l with pendingLot := some code, pendOffsets := none }, 2) := by
  simp [Lane.assign, he, hp]

end

section
variable {h : Held} {s : State}

theorem lotAssignBody_error {st : Status}
    (hc : s.checkSlot (byteAt h.frame.payload 0) = .error st) :
    lotAssignBody h s = .refuse s st := by simp [lotAssignBody, hc]

variable {i : Slot} (hc : s.checkSlot (byteAt h.frame.payload 0) = .ok i)
include hc

theorem lotAssignBody_unknownLot (hn : s.findLot (wordAt h.frame.payload 1) = none) :
    lotAssignBody h s = .refuse s .unknownLot := by simp [lotAssignBody, hc, hn]

variable {lot : LotRecord} (hl : s.findLot (wordAt h.frame.payload 1) = some lot)
include hl

theorem lotAssignBody_lotMismatch (hf : (s.lane i).family ≠ some lot.family) :
    lotAssignBody h s = .refuse s .lotMismatch := by simp [lotAssignBody, hc, hl, hf]

/-- LOT ASSIGN past its checks: the lane, its lots and the code of its disposition. -/
theorem lotAssignBody_assigned {l : Lane} {disposition : Nat} {effective pending : Option Nat}
    (hf : (s.lane i).family = some lot.family)
    (ha : (s.lane i).assign (wordAt h.frame.payload 1) = (l, disposition))
    (he : l.effective = effective) (hp : l.pendingLot = pending) :
    lotAssignBody h s = .done (s.setLane i l) .ok
      (u8 disposition ++ u16 (effective.getD 0) ++ u16 (pending.getD 0)) := by
  simp [lotAssignBody, hc, hl, hf, ha, he, hp, opt16]

end

/-- Settles O28: the checks one by one, then the three dispositions of R27. -/
theorem lotAssignOutcome : Obligations.LotAssignOutcome := by
  intro s h r
  refine ⟨fun hb => runCommand_refuse r (lotAssignBody_error (checkSlot_badValue hb)),
    fun i hi => ⟨fun hv => ?_, fun hv hn => ?_, fun lot hv hl => ⟨fun hf => ?_,
      fun hf he => ?_, fun hf he hp => ?_, fun hf he hp => ?_⟩⟩⟩
  · exact runCommand_refuse r (lotAssignBody_error (checkSlot_unknownLane hi hv))
  · exact runCommand_refuse r (lotAssignBody_unknownLot (checkSlot_ok hi hv) hn)
  · exact runCommand_refuse r (lotAssignBody_lotMismatch (checkSlot_ok hi hv) hl hf)
  · exact runCommand_done r (lotAssignBody_assigned (checkSlot_ok hi hv) hl hf
      (Lane.assign_effective he) he rfl)
  · exact runCommand_done r (lotAssignBody_assigned (checkSlot_ok hi hv) hl hf
      (Lane.assign_pending he hp) rfl hp)
  · exact runCommand_done r (lotAssignBody_assigned (checkSlot_ok hi hv) hl hf
      (Lane.assign_other he hp) rfl rfl)

/-! ### LANE SUSPEND and LANE RESUME (R33, R35) -/

section
variable {h : Held} {s : State}

theorem laneSuspendBody_error {st : Status}
    (hc : s.checkSlot (byteAt h.frame.payload 0) = .error st) :
    laneSuspendBody h s = .refuse s st := by simp [laneSuspendBody, hc]

theorem laneResumeBody_error {st : Status}
    (hc : s.checkSlot (byteAt h.frame.payload 0) = .error st) :
    laneResumeBody h s = .refuse s st := by simp [laneResumeBody, hc]

variable {i : Slot} (hc : s.checkSlot (byteAt h.frame.payload 0) = .ok i)
include hc

theorem laneSuspendBody_live (hs : (s.lane i).state ≠ .suspended) :
    laneSuspendBody h s = .done
      (s.setLane i { s.lane i with state := .suspended, suspendedFrom := some (s.lane i).state }) .ok
      (u8 (s.lane i).state.code) := by
  simp [laneSuspendBody, hc, Lane.suspend, hs, opt8]

theorem laneSuspendBody_suspended {st : LaneState} (hs : (s.lane i).state = .suspended)
    (hfrom : (s.lane i).suspendedFrom = some st) :
    laneSuspendBody h s = .done (s.setLane i (s.lane i)) .ok (u8 st.code) := by
  simp [laneSuspendBody, hc, Lane.suspend, hs, hfrom, opt8]

theorem laneResumeBody_badValue (hs : (s.lane i).state ≠ .suspended) :
    laneResumeBody h s = .refuse s .badValue := by simp [laneResumeBody, hc, hs]

theorem laneResumeBody_suspended {st : LaneState} {x : Settings}
    (hs : (s.lane i).state = .suspended) (hfrom : (s.lane i).suspendedFrom = some st)
    (hx : s.laneSettings (s.lane i) = some x) :
    laneResumeBody h s = .done
      (s.setLane i (({ s.lane i with state := st, suspendedFrom := none } : Lane).reload x)) .ok
      (u8 st.code) := by
  simp [laneResumeBody, hc, hs, hfrom, hx]

end

/-- Settles O29: the slot checks, then the lane's state decides. -/
theorem suspendAndResumeOutcome : Obligations.SuspendAndResumeOutcome := by
  refine ⟨fun s h r => ⟨fun hb => ?_, fun i hi => ⟨fun hv => ?_, fun hv hs => ?_,
    fun st hs hfrom => ?_⟩⟩, fun s h r => ⟨fun hb => ?_, fun i hi => ⟨fun hv => ?_,
    fun hv hs => ?_, fun st f x hs hfrom hf hx => ?_⟩⟩⟩
  · exact runCommand_refuse r (laneSuspendBody_error (checkSlot_badValue hb))
  · exact runCommand_refuse r (laneSuspendBody_error (checkSlot_unknownLane hi hv))
  · exact runCommand_done r (laneSuspendBody_live (checkSlot_ok hi hv) hs)
  · have hv : (s.lane i).state ≠ .vacant := by rw [hs]; decide
    exact runCommand_done r (laneSuspendBody_suspended (checkSlot_ok hi hv) hs hfrom)
  · exact runCommand_refuse r (laneResumeBody_error (checkSlot_badValue hb))
  · exact runCommand_refuse r (laneResumeBody_error (checkSlot_unknownLane hi hv))
  · exact runCommand_refuse r (laneResumeBody_badValue (checkSlot_ok hi hv) hs)
  · have hv : (s.lane i).state ≠ .vacant := by rw [hs]; decide
    exact runCommand_done r (laneResumeBody_suspended (checkSlot_ok hi hv) hs hfrom
      (laneSettings_eq_some.mpr ⟨f, hf, hx⟩))

end Sys2Proof.Machine

namespace Sys2Proof.Machine

/-! ### LANE RETIRE (R25, R26) -/

section
variable {h : Held} {s : State}

theorem laneRetireBody_error {st : Status}
    (hc : s.checkSlot (byteAt h.frame.payload 0) = .error st) :
    laneRetireBody h s = .refuse s st := by simp [laneRetireBody, hc]

variable {i : Slot} (hc : s.checkSlot (byteAt h.frame.payload 0) = .ok i)
include hc

theorem laneRetireBody_busy (hb : s.dayRunning = true ∨ s.rebuildRunning i = true) :
    laneRetireBody h s = .refuse s .busy := by simp [laneRetireBody, hc, hb]

theorem laneRetireBody_ok (hd : s.dayRunning = false) (hr : s.rebuildRunning i = false) :
    laneRetireBody h s = .done (s.retire i) .ok [] := by simp [laneRetireBody, hc, hd, hr]

end

theorem Cohort.without_eq (i : Slot) (x : Cohort) : x.without i = { x with
    members := x.members.filter (· != i)
    mode := if x.mode = .anchor (some i) then .anchor none else x.mode } := by
  unfold Cohort.without
  cases x.mode with
  | median q => simp
  | anchor a => by_cases ha : a = some i <;> simp [ha]

theorem retire_finished (s : State) (i : Slot) :
    (s.retire i).finished = (s.cancelRebuildOf i).finished := by rw [State.retire_eq]

theorem retire_alerts (s : State) (i : Slot) :
    (s.retire i).alerts = s.alerts.filter fun a => a.subject != .lane i := by rw [State.retire_eq]

theorem retire_overflow (s : State) (i : Slot) :
    (s.retire i).overflow = (s.overflow && !(s.retire i).alerts.isEmpty) := by
  rw [retire_alerts, State.retire_eq]

theorem retire_nextSerial (s : State) (i : Slot) : (s.retire i).nextSerial = s.nextSerial := by
  rw [State.retire_eq]

theorem retire_nextJobId (s : State) (i : Slot) : (s.retire i).nextJobId = s.nextJobId := by
  rw [State.retire_eq]

/-- Settles O27: the checks one by one, then the tables after the removal, field by field. -/
theorem laneRetireOutcome : Obligations.LaneRetireOutcome := by
  intro s h r
  refine ⟨fun hb => runCommand_refuse r (laneRetireBody_error (checkSlot_badValue hb)),
    fun i hi => ⟨fun hv => ?_, fun hv hb => ?_, fun hv hd hr => ⟨s.retire i, ?_, ?_⟩⟩⟩
  · exact runCommand_refuse r (laneRetireBody_error (checkSlot_unknownLane hi hv))
  · exact runCommand_refuse r (laneRetireBody_busy (checkSlot_ok hi hv) hb)
  · exact runCommand_done r (laneRetireBody_ok (checkSlot_ok hi hv) hd hr)
  refine ⟨by rw [retire_lane, if_pos rfl], fun j hj => by rw [retire_lane, if_neg hj.symm],
    retire_directory s i, fun c => ?_, retire_alerts s i, retire_overflow s i,
    retire_nextSerial s i, retire_sheet s i, ?_, retire_nextJobId s i, State.retire_lots s i,
    State.retire_families s i, State.retire_config s i, State.retire_openDay s i,
    State.retire_ports s i, State.retire_arbiter s i, State.retire_executor s i⟩
  · rw [retire_cohort, funext (Cohort.without_eq i)]
  · rw [retire_queue, retire_finished]
    unfold State.cancelRebuildOf State.findRebuild
    cases hj : s.queue.find? fun j => j.kind == .rebuild i with
    | none => exact ⟨rfl, rfl⟩
    | some j =>
      have hkind : j.kind = .rebuild i := by simpa using List.find?_some hj
      simp [State.finishJob, hkind]

/-! ### READ LANE (R38) -/

/-- The answer for a VACANT slot: its number, VACANT and 28 further bytes (log entry 12). -/
theorem vacantPayload_eq (i : Slot) : ∃ absent : List Byte,
    vacantPayload i = u8 i.val ++ [0] ++ absent ∧ absent.length = 28 := by
  refine ⟨[0xFF, 0, 0, 0xFF, 0xFF, 0xFF, 0, 0, 0, 0, 0, 0, 0xFF, 0xFF, 0xFF, 0xFF, 0, 0, 0xFF, 0xFF,
    0, 0, 0, 0, 0, 0, 0, 0], ?_, rfl⟩
  unfold vacantPayload
  simp [u8, u16, opt8, opt16, offsetBytes, flag]

theorem offsetBytes_eq (o : Option (List Int)) : offsetBytes o = match o with
    | none => [0]
    | some os => [1] ++ os.flatMap i16 := by
  cases o <;> rfl

section
variable {s : State} {i : Slot}

theorem readSlot_vacant (hv : (s.lane i).state = .vacant) :
    readSlot s i = .done s .ok (vacantPayload i) := by simp [readSlot, hv]

theorem readSlot_live {x : Settings} (hv : (s.lane i).state ≠ .vacant)
    (hx : s.laneSettings (s.lane i) = some x) :
    readSlot s i = .done s .ok (lanePayload i (s.lane i) x) := by simp [readSlot, hv, hx]

end

section
variable {h : Held} {s : State}

theorem readLaneBody_badSelector (hb : 1 < byteAt h.frame.payload 0) :
    readLaneBody h s = .refuse s .badValue := by
  have h0 : byteAt h.frame.payload 0 ≠ 0 := by omega
  have h1 : byteAt h.frame.payload 0 ≠ 1 := by omega
  simp [readLaneBody, h0, h1]

theorem readLaneBody_badSlot (h0 : byteAt h.frame.payload 0 = 0)
    (hb : 127 < byteAt h.frame.payload 1) : readLaneBody h s = .refuse s .badValue := by
  simp [readLaneBody, h0, idOf_eq_none.mpr hb]

theorem readLaneBody_unknownLane (h1 : byteAt h.frame.payload 0 = 1)
    (hn : s.findLane ⟨wordAt h.frame.payload 1, byteAt h.frame.payload 3⟩ = none) :
    readLaneBody h s = .refuse s .unknownLane := by
  simp [readLaneBody, h1, hn]

/-- By slot or by identity, READ LANE answers with the slot it selects. -/
theorem readLaneBody_selected {i : Slot}
    (hi : (byteAt h.frame.payload 0 = 0 ∧ byteAt h.frame.payload 1 = i.val) ∨
      byteAt h.frame.payload 0 = 1 ∧
        s.findLane ⟨wordAt h.frame.payload 1, byteAt h.frame.payload 3⟩ = some i) :
    readLaneBody h s = readSlot s i := by
  rcases hi with ⟨h0, hslot⟩ | ⟨h1, hname⟩
  · simp [readLaneBody, h0, idOf_eq_some.mpr hslot]
  · simp [readLaneBody, h1, hname]

end

/-- Settles O30: the selection, then the bytes of a VACANT slot or of the lane's record. -/
theorem readLaneReport : Obligations.ReadLaneReport := by
  intro s h r
  refine ⟨fun hb => ?_, fun h0 hb => ?_, fun h1 hn => ?_, fun i hi => ⟨fun hv => ?_,
    fun f x hv hf hx => ?_⟩⟩
  · exact runCommand_refuse r (readLaneBody_badSelector hb)
  · exact runCommand_refuse r (readLaneBody_badSlot h0 hb)
  · exact runCommand_refuse r (readLaneBody_unknownLane h1 hn)
  · obtain ⟨absent, heq, hlen⟩ := vacantPayload_eq i
    refine ⟨absent, ?_, hlen⟩
    rw [← heq]
    exact runCommand_done r ((readLaneBody_selected hi).trans (readSlot_vacant hv))
  · have hset := laneSettings_eq_some.mpr ⟨f, hf, hx⟩
    have run := runCommand_done r ((readLaneBody_selected hi).trans (readSlot_live hv hset))
    unfold lanePayload at run
    rw [hf, offsetBytes_eq, offsetBytes_eq] at run
    exact run

end Sys2Proof.Machine

namespace Sys2Proof.Machine

/-! ### The REBUILD job of a lane in the queue (R109, R125) -/

theorem findRebuild_of_split {s : State} {i : Slot} {ahead behind : List Job} {j : Job}
    (hq : s.queue = ahead ++ j :: behind) (hk : j.kind = .rebuild i)
    (hfirst : ∀ x ∈ ahead, x.kind ≠ .rebuild i) : s.findRebuild i = some j :=
  List.find?_eq_some_iff_append.mpr
    ⟨beq_iff_eq.mpr hk, ahead, behind, hq, fun x hx => by simp [hfirst x hx]⟩

/-- A job that joins a lawful queue, and the id counter after it (R97). -/
theorem State.joinJob_next (s : State) (k : JobKind) : ∃ next,
    (QueueLaw s → FirstFreeAfter (s.nextJobId :: s.heldJobIds) s.nextJobId next) ∧
      s.joinJob k = { s with
        queue := s.queue ++ [⟨s.nextJobId, k, .queued⟩], nextJobId := next } :=
  ⟨(s.joinJob k).nextJobId, fun q => State.joinJob_firstFree k q, rfl⟩

/-! ### REBUILD (R109) -/

section
variable {h : Held} {s : State}

theorem rebuildBody_error {st : Status}
    (hc : s.checkSlot (byteAt h.frame.payload 0) = .error st) :
    rebuildBody h s = .refuse s st := by simp [rebuildBody, hc]

variable {i : Slot} (hc : s.checkSlot (byteAt h.frame.payload 0) = .ok i)
include hc

theorem rebuildBody_badValue
    (hs : (s.lane i).state = .enrolled ∨ (s.lane i).state = .suspended) :
    rebuildBody h s = .refuse s .badValue := by
  rcases hs with hs | hs <;> simp [rebuildBody, hc, hs]

variable (hs : (s.lane i).state = .settling ∨ (s.lane i).state = .tracking)
include hs

theorem rebuildBody_duplicate {j : Job} (hj : s.findRebuild i = some j) :
    rebuildBody h s = .done s .duplicate (u16 j.id) := by
  rcases hs with hs | hs <;> simp [rebuildBody, hc, hs, hj]

variable (hn : s.findRebuild i = none)
include hn

theorem rebuildBody_full (hl : 8 ≤ s.queue.length) : rebuildBody h s = .refuse s .full := by
  rcases hs with hs | hs <;> simp [rebuildBody, hc, hs, hn, hl]

theorem rebuildBody_queued (hl : s.queue.length < 8) :
    rebuildBody h s = .done (s.joinJob (.rebuild i)) .queued (u16 s.nextJobId) := by
  rcases hs with hs | hs <;> simp [rebuildBody, hc, hs, hn, hl]

end

/-- Settles O39: the checks one by one, then the job at the tail of the queue. -/
theorem rebuildOutcome : Obligations.RebuildOutcome := by
  intro s h r
  refine ⟨fun hb => runCommand_refuse r (rebuildBody_error (checkSlot_badValue hb)),
    fun i hi => ⟨fun hv => ?_, fun hs => ?_, fun hs => ?_⟩⟩
  · exact runCommand_refuse r (rebuildBody_error (checkSlot_unknownLane hi hv))
  · have hv : (s.lane i).state ≠ .vacant := by rcases hs with hs | hs <;> rw [hs] <;> decide
    exact runCommand_refuse r (rebuildBody_badValue (checkSlot_ok hi hv) hs)
  have hc : s.checkSlot (byteAt h.frame.payload 0) = .ok i :=
    checkSlot_ok hi (by rcases hs with hs | hs <;> rw [hs] <;> decide)
  refine ⟨fun ahead j behind hq hk hfirst => ?_, fun hn => ⟨fun hl => ?_, fun hl => ?_⟩⟩
  · exact runCommand_done r (rebuildBody_duplicate hc hs (findRebuild_of_split hq hk hfirst))
  · exact runCommand_refuse r (rebuildBody_full hc hs (findRebuild_eq_none.mpr hn) hl)
  · obtain ⟨next, hnext, hjoin⟩ := s.joinJob_next (.rebuild i)
    refine ⟨next, hnext, ?_⟩
    rw [← hjoin]
    exact runCommand_done r (rebuildBody_queued hc hs (findRebuild_eq_none.mpr hn) hl)

/-! ### EXCLUDE DAY (R124, R125) -/

theorem boolOf_of_le {n : Nat} (h : n ≤ 1) : boolOf n = some (decide (n = 1)) := by
  rcases Nat.le_one_iff_eq_zero_or_eq_one.mp h with rfl | rfl <;> rfl

theorem boolOf_eq_none {n : Nat} (h : 1 < n) : boolOf n = none := by
  rw [← Option.not_isSome_iff_eq_none, boolOf_isSome_iff]; omega

section
variable {h : Held} {s : State}

theorem excludeDayBody_error {st : Status}
    (hc : s.checkSlot (byteAt h.frame.payload 0) = .error st) :
    excludeDayBody h s = .refuse s st := by simp [excludeDayBody, hc]

variable {i : Slot} (hc : s.checkSlot (byteAt h.frame.payload 0) = .ok i)
include hc

theorem excludeDayBody_badValue
    (hb : 1 < byteAt h.frame.payload 3 ∨ wordAt h.frame.payload 1 = 0) :
    excludeDayBody h s = .refuse s .badValue := by
  unfold excludeDayBody
  simp only [hc]
  split
  · rfl
  · rename_i want hwant
    rcases hb with hb | hb
    · rw [boolOf_eq_none hb] at hwant; cases hwant
    · rw [if_pos hb]

variable (hflag : byteAt h.frame.payload 3 ≤ 1) (hday : wordAt h.frame.payload 1 ≠ 0)
include hflag hday

theorem excludeDayBody_notFound
    (hn : ∀ x ∈ (s.lane i).history, x.day ≠ wordAt h.frame.payload 1) :
    excludeDayBody h s = .refuse s .notFound := by
  have hfind : (s.lane i).history.find? (fun x => x.day == wordAt h.frame.payload 1) = none := by
    simpa using hn
  simp [excludeDayBody, hc, boolOf_of_le hflag, hday, hfind]

variable {x : HistoryEntry}
  (hx : (s.lane i).history.find? (fun y => y.day == wordAt h.frame.payload 1) = some x)
include hx

theorem excludeDayBody_busy (hr : s.rebuildRunning i = true) :
    excludeDayBody h s = .refuse s .busy := by
  simp [excludeDayBody, hc, boolOf_of_le hflag, hday, hx, hr]

variable (hr : s.rebuildRunning i = false)
include hr

theorem excludeDayBody_unchanged (he : x.excluded = decide (byteAt h.frame.payload 3 = 1)) :
    excludeDayBody h s = .done s .ok (flag (decide (byteAt h.frame.payload 3 = 1))
      ++ u8 (s.lane i).chart.code ++ u8 3 ++ u16 0) := by
  simp [excludeDayBody, hc, boolOf_of_le hflag, hday, hx, hr, he]

theorem excludeDayBody_changed (he : x.excluded ≠ decide (byteAt h.frame.payload 3 = 1)) :
    excludeDayBody h s =
      excludeEntry s i (wordAt h.frame.payload 1) (decide (byteAt h.frame.payload 3 = 1)) := by
  simp [excludeDayBody, hc, boolOf_of_le hflag, hday, hx, hr, he]

end

section
variable {s : State} {i : Slot}

theorem queueExclusionRebuild_present {j : Job} (hj : s.findRebuild i = some j) :
    queueExclusionRebuild s i = (s, 1, j.id) := by simp [queueExclusionRebuild, hj]

variable (hn : s.findRebuild i = none)
include hn

theorem queueExclusionRebuild_joins (hl : s.queue.length < 8) :
    queueExclusionRebuild s i = (s.joinJob (.rebuild i), 0, s.nextJobId) := by
  simp [queueExclusionRebuild, hn, hl]

theorem queueExclusionRebuild_full (hl : 8 ≤ s.queue.length) :
    queueExclusionRebuild s i = (s, 2, 0) := by
  simp [queueExclusionRebuild, hn, Nat.not_lt.mpr hl]

end

/-- EXCLUDE DAY of a changed flag: the edited lane, then what becomes of the rebuild (R125). -/
theorem excludeEntry_eq {s t : State} {i : Slot} {day disposition id : Nat} {want : Bool}
    (hq : queueExclusionRebuild (s.setLane i ((s.lane i).setExcluded day want)) i =
      (t, disposition, id)) : excludeEntry s i day want =
        .done t .ok (flag want ++ u8 2 ++ u8 disposition ++ u16 id) := by
  unfold excludeEntry
  rw [hq]
  rfl

/-- Settles O48: the checks one by one, then the dispositions of the rebuild. -/
theorem excludeDayOutcome : Obligations.ExcludeDayOutcome := by
  intro s h r
  refine ⟨fun hb => runCommand_refuse r (excludeDayBody_error (checkSlot_badValue hb)),
    fun i hi => ⟨fun hv => ?_, fun hv hb => ?_, fun hv hflag hday => ⟨fun hn => ?_, fun x hx =>
      ⟨fun hr => ?_, fun hr he => ?_, fun hr he => ?_⟩⟩⟩⟩
  · exact runCommand_refuse r (excludeDayBody_error (checkSlot_unknownLane hi hv))
  · exact runCommand_refuse r (excludeDayBody_badValue (checkSlot_ok hi hv) hb)
  · exact runCommand_refuse r (excludeDayBody_notFound (checkSlot_ok hi hv) hflag hday hn)
  · exact runCommand_refuse r (excludeDayBody_busy (checkSlot_ok hi hv) hflag hday hx hr)
  · exact runCommand_done r (excludeDayBody_unchanged (checkSlot_ok hi hv) hflag hday hx hr he)
  have changed := excludeDayBody_changed (checkSlot_ok hi hv) hflag hday hx hr he
  refine ⟨fun ahead j behind hq hk hfirst => ?_, fun hn hl => ?_, fun hn hl => ?_⟩
  · exact runCommand_done r (changed.trans
      (excludeEntry_eq (queueExclusionRebuild_present (findRebuild_of_split hq hk hfirst))))
  · obtain ⟨next, hnext, hjoin⟩ := State.joinJob_next (s.setLane i
      ((s.lane i).setExcluded (wordAt h.frame.payload 1) (decide (byteAt h.frame.payload 3 = 1))))
      (.rebuild i)
    refine ⟨next, fun q => hnext (q.congr rfl rfl rfl), ?_⟩
    have run := runCommand_done r (changed.trans
      (excludeEntry_eq (queueExclusionRebuild_joins (findRebuild_eq_none.mpr hn) hl)))
    rw [hjoin] at run
    exact run
  · exact runCommand_done r (changed.trans
      (excludeEntry_eq (queueExclusionRebuild_full (findRebuild_eq_none.mpr hn) hl)))

end Sys2Proof.Machine

namespace Sys2Proof.Machine

/-! ### The offset of largest magnitude (R31) -/

theorem foldl_max_natAbs {os : List Int} {m b : Nat} (hm : m ≤ b) (hle : ∀ o ∈ os, o.natAbs ≤ b)
    (hb : m = b ∨ ∃ o ∈ os, o.natAbs = b) : os.foldl (fun m o => max m o.natAbs) m = b := by
  induction os generalizing m with
  | nil => simpa using hb
  | cons o os ih =>
    have ho := hle o (List.mem_cons_self ..)
    refine ih (max_le hm ho) (fun q hq => hle q (List.mem_cons_of_mem _ hq)) ?_
    rcases hb with hb | ⟨q, hq, hb⟩
    · exact .inl (show max m o.natAbs = b by omega)
    · rcases List.mem_cons.mp hq with rfl | hq
      · exact .inl (show max m q.natAbs = b by omega)
      · exact .inr ⟨q, hq, hb⟩

theorem largestMagnitude_eq {os : List Int} {o : Int} (ho : o ∈ os)
    (hmax : ∀ q ∈ os, q.natAbs ≤ o.natAbs) : largestMagnitude os = o.natAbs :=
  foldl_max_natAbs (Nat.zero_le _) hmax (.inr ⟨o, ho, rfl⟩)

/-- The place reported is that of the earliest offset of largest magnitude. -/
theorem worstOffset_eq {os : List Int} {k : Nat} {o : Int} (hk : os[k]? = some o)
    (hmax : ∀ q ∈ os, q.natAbs ≤ o.natAbs)
    (hfirst : ∀ (j : Nat) (q : Int), j < k → os[j]? = some q → q.natAbs < o.natAbs) :
    worstOffset os = k := by
  obtain ⟨hlt, rfl⟩ := List.getElem?_eq_some_iff.mp hk
  unfold worstOffset
  rw [largestMagnitude_eq (List.getElem_mem hlt) hmax]
  refine (List.findIdx_eq hlt).mpr ⟨beq_self_eq_true _, fun j hj => ?_⟩
  have hless := hfirst j os[j] hj (List.getElem?_eq_getElem (hj.trans hlt))
  exact beq_eq_false_iff_ne.mpr (Nat.ne_of_lt hless)

theorem offsetOk_iff {o : Int} : offsetOk o = true ↔ -150 ≤ o ∧ o ≤ 150 := by
  simp [offsetOk, Config.maxOffset]

/-! ### REFERENCE READ (R30, R31) -/

theorem Lane.hasLot_iff {l : Lane} {code : Nat} :
    l.hasLot code = true ↔ l.effective = some code ∨ l.pendingLot = some code := by
  simp [Lane.hasLot]

theorem Lane.storeOffsets_place (code : Nat) (os : List Int) (l : Lane) :
    l.storeOffsets code os = (if l.effective = some code then { l with effOffsets := some os }
      else { l with pendOffsets := some os }, if l.effective = some code then 0 else 1) := by
  unfold Lane.storeOffsets
  split <;> rfl

section
variable {h : Held} {s : State}

theorem referenceReadBody_unknownLane
    (hn : s.findLane ⟨wordAt h.frame.payload 0, byteAt h.frame.payload 2⟩ = none) :
    referenceReadBody h s = .refuse s .unknownLane := by simp [referenceReadBody, hn]

variable {i : Slot}
  (hi : s.findLane ⟨wordAt h.frame.payload 0, byteAt h.frame.payload 2⟩ = some i)
include hi

theorem referenceReadBody_unknownLot (hn : s.findLot (wordAt h.frame.payload 3) = none) :
    referenceReadBody h s = .refuse s .unknownLot := by simp [referenceReadBody, hi, hn]

variable {lot : LotRecord} (hl : s.findLot (wordAt h.frame.payload 3) = some lot)
include hl

theorem referenceReadBody_lotMismatch (hm : (s.lane i).hasLot lot.code = false) :
    referenceReadBody h s = .refuse s .lotMismatch := by simp [referenceReadBody, hi, hl, hm]

variable {x : Settings} (hm : (s.lane i).hasLot lot.code = true)
  (hx : s.laneSettings (s.lane i) = some x)
include hm hx

theorem referenceReadBody_layout (hn : byteAt h.frame.payload 6 ≠ x.patchCount) :
    referenceReadBody h s = .refuse s .layout := by
  simp [referenceReadBody, hi, hl, hm, hx, hn]

variable (hn : byteAt h.frame.payload 6 = x.patchCount)
include hn

theorem referenceReadBody_badValue (hb : 1 < byteAt h.frame.payload 5) :
    referenceReadBody h s = .refuse s .badValue := by
  simp [referenceReadBody, hi, hl, hm, hx, hn, boolOf_eq_none hb]

theorem referenceReadBody_store (hb : byteAt h.frame.payload 5 ≤ 1) :
    referenceReadBody h s =
      storeReference h.frame.payload s i x lot (decide (byteAt h.frame.payload 5 = 1)) := by
  simp [referenceReadBody, hi, hl, hm, hx, hn, boolOf_of_le hb]

end

section
variable {p : List Byte} {s : State} {i : Slot} {x : Settings} {lot : LotRecord} {rev : Bool}
  {os : List Int}
  (hos : candidateOffsets (byteAt p 6) rev (wordsAt p 7 (byteAt p 6 * 3)) lot.published = os)
include hos

theorem storeReference_ok {l : Lane} {place : Nat} (hok : ∀ o ∈ os, -150 ≤ o ∧ o ≤ 150)
    (hs : (s.lane i).storeOffsets lot.code os = (l, place)) :
    storeReference p s i x lot rev =
      .done (s.setLane i (if x.refActivity then l.reload x else l)) .ok
        (u8 i.val ++ u8 place ++ u8 (byteAt p 6) ++ os.flatMap i16) := by
  have hall : os.all offsetOk = true :=
    List.all_eq_true.mpr fun o ho => offsetOk_iff.mpr (hok o ho)
  simp only [storeReference, hos, hall, hs, if_true]

theorem storeReference_refRange {k : Nat} {o : Int} (hk : os[k]? = some o)
    (hbad : ¬ (-150 ≤ o ∧ o ≤ 150)) (hw : worstOffset os = k) :
    storeReference p s i x lot rev =
      .done s .refRange (u8 (k / 3) ++ u8 (k % 3) ++ i16 o) := by
  have hall : ¬ os.all offsetOk = true := fun hall =>
    hbad (offsetOk_iff.mp (List.all_eq_true.mp hall o (List.mem_of_getElem? hk)))
  simp only [storeReference, hos, if_neg hall, hw, List.getD_eq_getElem?_getD, hk,
    Option.getD_some]

end

/-- Settles O31: the checks one by one, then the offsets stored whole or the worst one reported. -/
theorem referenceReadOutcome : Obligations.ReferenceReadOutcome := by
  intro s h r
  refine ⟨fun hn => runCommand_refuse r (referenceReadBody_unknownLane hn), fun i hi =>
    ⟨fun hn => runCommand_refuse r (referenceReadBody_unknownLot hi hn), fun lot hl => ?_⟩⟩
  have hcode : lot.code = wordAt h.frame.payload 3 := (findLot_eq_some hl).2
  rw [← hcode]
  refine ⟨fun he hp => runCommand_refuse r (referenceReadBody_lotMismatch hi hl ?_),
    fun f x hlot hf ha => ?_⟩
  · simp [Lane.hasLot, he, hp]
  have hm := Lane.hasLot_iff.mpr hlot
  have hx := laneSettings_eq_some.mpr ⟨f, hf, ha⟩
  refine ⟨fun hn => runCommand_refuse r (referenceReadBody_layout hi hl hm hx hn),
    fun hn hb => runCommand_refuse r (referenceReadBody_badValue hi hl hm hx hn hb),
    fun hn hb => ⟨fun hok => ?_, fun k o hk hbad hmax hfirst => ?_⟩⟩
  · have run := runCommand_done r ((referenceReadBody_store hi hl hm hx hn hb).trans
      (storeReference_ok rfl hok (Lane.storeOffsets_place ..)))
    refine run.trans ?_
    split <;> rfl
  · exact runCommand_done r ((referenceReadBody_store hi hl hm hx hn hb).trans
      (storeReference_refRange rfl hk hbad (worstOffset_eq hk hmax hfirst)))

end Sys2Proof.Machine

namespace Sys2Proof.Machine

/-! ### A history entry in the bytes of R176 -/

theorem u8_length (n : Nat) : (u8 n).length = 1 := rfl

theorem u16_length (n : Nat) : (u16 n).length = 2 := rfl

theorem opt16_length (x : Option Nat) : (opt16 x).length = 2 := rfl

theorem flag_eq_u8 (b : Bool) : flag b = u8 (if b then 1 else 0) := by cases b <;> rfl

theorem flatMap_length_of_const {α β : Type} {f : α → List β} {n : Nat} (h : ∀ a, (f a).length = n)
    (l : List α) : (l.flatMap f).length = n * l.length := by
  simp [List.length_flatMap, h, Nat.mul_comm]

theorem twelve_eq (x : Int) : twelve x = (x % 4096).toNat := by
  simp [twelve, BitVec.toNat_ofInt]

theorem twelve_lt (x : Int) : twelve x < 4096 := (BitVec.ofInt 12 x).isLt

/-- Two values of 12 bits in three bytes, most significant bit first. -/
theorem twelves_bytes {d e : Nat} (he : e < 4096) :
    u8 ((d * 4096 + e) / 65536) ++ u16 (d * 4096 + e) =
      u8 (d / 16) ++ u8 (16 * (d % 16) + e / 256) ++ u8 (e % 256) := by
  have hhigh : (d * 4096 + e) / 65536 = d / 16 := by omega
  have hmid : BitVec.ofNat 8 ((d * 4096 + e) / 256) = BitVec.ofNat 8 (16 * (d % 16) + e / 256) :=
    BitVec.eq_of_toNat_eq (by simp only [BitVec.toNat_ofNat]; omega)
  have hlow : BitVec.ofNat 8 (d * 4096 + e) = BitVec.ofNat 8 (e % 256) :=
    BitVec.eq_of_toNat_eq (by simp only [BitVec.toNat_ofNat]; omega)
  simp [u8, u16, hhigh, hmid, hlow]

theorem ParamResult.bytes_eq (r : ParamResult) : r.bytes =
    u8 ((if r.e.isSome then 128 else 0) + (if r.s.isSome then 64 else 0) + 16 * r.run.sign.code
        + r.verdict.code)
      ++ u8 ((r.d % 4096).toNat / 16)
      ++ u8 (16 * ((r.d % 4096).toNat % 16) + (r.e.getD 0 % 4096).toNat / 256)
      ++ u8 ((r.e.getD 0 % 4096).toNat % 256) ++ i16 (r.s.getD 0) ++ u8 r.run.length := by
  have hde := twelves_bytes (d := twelve r.d) (twelve_lt (r.e.getD 0))
  simp only [twelve_eq] at hde
  unfold ParamResult.bytes
  simp only [twelve_eq, Nat.mul_comm r.run.sign.code, List.append_assoc] at hde ⊢
  rw [← List.append_assoc (u8 _) (u16 _), hde]
  simp only [List.append_assoc]

theorem ParamResult.bytes_length (r : ParamResult) : r.bytes.length = 7 := rfl

section
variable {x : HistoryEntry}

theorem HistoryEntry.bytes_reading {rerun : Nat} {notes : ReadingNotes} {rs : List ParamResult}
    {v : Verdict} (hb : x.body = .reading rerun notes rs v) : x.bytes =
      u16 x.day ++ [0] ++ u16 x.lot ++ u8 rerun ++ u8 notes.code
        ++ u8 (if x.excluded then 1 else 0) ++ u8 v.code ++ u8 rs.length
        ++ rs.flatMap ParamResult.bytes := by
  unfold HistoryEntry.bytes
  rw [hb, ← flag_eq_u8 x.excluded]
  rfl

theorem HistoryEntry.bytes_missing {withdrawn : Bool} (hb : x.body = .missing withdrawn) :
    x.bytes = u16 x.day ++ [1] ++ u16 x.lot ++ [0xFF] ++ u8 (if withdrawn then 1 else 0)
      ++ u8 (if x.excluded then 1 else 0) ++ [0xFF] ++ [0] := by
  unfold HistoryEntry.bytes
  rw [hb, ← flag_eq_u8 x.excluded]
  rfl

theorem HistoryEntry.bytes_length_reading {rerun : Nat} {notes : ReadingNotes}
    {rs : List ParamResult} {v : Verdict} (hb : x.body = .reading rerun notes rs v) :
    x.bytes.length = 10 + 7 * rs.length := by
  rw [bytes_reading hb]
  simp only [List.length_append, List.length_singleton, u8_length, u16_length,
    flatMap_length_of_const ParamResult.bytes_length]

theorem HistoryEntry.bytes_length_missing {withdrawn : Bool} (hb : x.body = .missing withdrawn) :
    x.bytes.length = 10 := by
  rw [bytes_missing hb]
  rfl

theorem HistoryEntry.bytes_length_pos : 0 < x.bytes.length := by
  cases hb : x.body with
  | reading rerun notes rs v => rw [bytes_length_reading hb]; omega
  | missing withdrawn => rw [bytes_length_missing hb]; omega

end

/-! ### A page of whole entries (R134, R177) -/

/-- `takeFit` takes from the front, within the room and the count, and stops only where the next
element would exceed one of them. -/
theorem takeFit_spec {α : Type} (size : α → Nat) (room count : Nat) (xs : List α) :
    ∃ rest, xs = takeFit size room count xs ++ rest ∧
      ((takeFit size room count xs).map size).sum ≤ room ∧
      (takeFit size room count xs).length ≤ count ∧
      ∀ y ys, rest = y :: ys → room < ((takeFit size room count xs).map size).sum + size y ∨
        (takeFit size room count xs).length = count := by
  induction xs generalizing room count with
  | nil => exact ⟨[], rfl, Nat.zero_le _, Nat.zero_le _, fun y ys h => by cases h⟩
  | cons x xs ih =>
    by_cases hstop : count = 0 ∨ room < size x
    · rw [takeFit, if_pos hstop]
      refine ⟨x :: xs, rfl, Nat.zero_le _, Nat.zero_le _, fun y ys h => ?_⟩
      cases h
      rcases hstop with h0 | hroom
      · exact .inr h0.symm
      · exact .inl (by simpa using hroom)
    · rw [takeFit, if_neg hstop]
      obtain ⟨rest, hsplit, hsum, hlen, hnext⟩ := ih (room - size x) (count - 1)
      rw [not_or, not_lt] at hstop
      refine ⟨rest, by rw [List.cons_append, ← hsplit], ?_, ?_, fun y ys h => ?_⟩
      · rw [List.map_cons, List.sum_cons]; omega
      · rw [List.length_cons]; omega
      · rw [List.map_cons, List.sum_cons, List.length_cons]
        have := hnext y ys h
        omega

theorem chartHead_length (i : Slot) (l : Lane) : (chartHead i l).length = 7 + 4 * l.params.length := by
  have hparam : ∀ q : ParamState, q.bytes.length = 4 := fun q => rfl
  unfold chartHead
  simp only [List.length_append, u8_length, opt16_length, flatMap_length_of_const hparam]

/-- The length of a READ CHART response with a page of entries (R177). -/
def chartSize (i : Slot) (l : Lane) (page : List HistoryEntry) : Nat :=
  (chartHead i l).length + 1 + (page.flatMap HistoryEntry.bytes).length + 3

theorem chartSize_eq (i : Slot) (l : Lane) (page : List HistoryEntry) : chartSize i l page =
    11 + 4 * l.params.length + (page.map fun x => x.bytes.length).sum := by
  unfold chartSize
  rw [chartHead_length, List.length_flatMap]
  omega

/-- The page holds as many of the wanted entries as the payload and the maximum count allow. -/
theorem chartPage_spec (i : Slot) (l : Lane) (fromDay maxCount : Nat) :
    ∃ rest, (l.history.filter fun x => decide (fromDay ≤ x.day)) =
        chartPage l fromDay maxCount ++ rest ∧
      (chartPage l fromDay maxCount ≠ [] → chartSize i l (chartPage l fromDay maxCount) ≤ 1016) ∧
      (maxCount ≠ 0 → (chartPage l fromDay maxCount).length ≤ maxCount) ∧
      ∀ x xs, rest = x :: xs → 1016 < chartSize i l (chartPage l fromDay maxCount ++ [x]) ∨
        maxCount ≠ 0 ∧ (chartPage l fromDay maxCount).length = maxCount := by
  obtain ⟨rest, hsplit, hsum, hlen, hnext⟩ := takeFit_spec (fun x : HistoryEntry => x.bytes.length)
    (Config.maxPayload - (8 + 4 * l.params.length) - 3)
    (if maxCount = 0 then (l.history.filter fun x => decide (fromDay ≤ x.day)).length else maxCount)
    (l.history.filter fun x => decide (fromDay ≤ x.day))
  change _ = chartPage l fromDay maxCount ++ rest at hsplit
  change ((chartPage l fromDay maxCount).map _).sum ≤ 1016 - (8 + 4 * l.params.length) - 3 at hsum
  change (chartPage l fromDay maxCount).length ≤ _ at hlen
  change ∀ y ys, rest = y :: ys → 1016 - (8 + 4 * l.params.length) - 3 <
    ((chartPage l fromDay maxCount).map _).sum + y.bytes.length ∨
      (chartPage l fromDay maxCount).length = _ at hnext
  refine ⟨rest, hsplit, fun hne => ?_, fun h0 => ?_, fun x xs hrest => ?_⟩
  · obtain ⟨y, ys, hy⟩ := List.exists_cons_of_ne_nil hne
    have hpos := HistoryEntry.bytes_length_pos (x := y)
    rw [chartSize_eq]
    rw [hy, List.map_cons, List.sum_cons] at hsum ⊢
    omega
  · rwa [if_neg h0] at hlen
  · rw [chartSize_eq, List.map_append, List.sum_append, List.map_singleton, List.sum_singleton]
    rcases hnext x xs hrest with hroom | hcount
    · exact .inl (by omega)
    · by_cases h0 : maxCount = 0
      · have hall := congrArg List.length hsplit
        rw [List.length_append, hrest, List.length_cons] at hall
        rw [if_pos h0] at hcount
        omega
      · exact .inr ⟨h0, by rwa [if_neg h0] at hcount⟩

/-! ### READ CHART (R134) -/

/-- Where to go on after a page: the day after its last entry, when later entries exist (R134). -/
def Lane.chartNext (l : Lane) (page : List HistoryEntry) : Option Nat :=
  match page.getLast? with
  | none => none
  | some x => if l.history.any (fun y => decide (x.day < y.day)) then some (x.day + 1) else none

theorem chartPayload_eq (i : Slot) (l : Lane) (fromDay maxCount : Nat) :
    chartPayload i l fromDay maxCount =
      chartHead i l ++ u8 (chartPage l fromDay maxCount).length
        ++ (chartPage l fromDay maxCount).flatMap HistoryEntry.bytes
        ++ (flag (l.chartNext (chartPage l fromDay maxCount)).isSome
          ++ opt16 (l.chartNext (chartPage l fromDay maxCount))) := by
  rw [← List.append_assoc]
  rfl

theorem chartNext_nil (l : Lane) : l.chartNext [] = none := by simp [Lane.chartNext]

theorem chartNext_bytes_of_last {l : Lane} {page : List HistoryEntry} {last : HistoryEntry}
    (h : page.getLast? = some last) :
    flag (l.chartNext page).isSome ++ opt16 (l.chartNext page) =
      if ∃ y ∈ l.history, last.day < y.day then [1] ++ u16 (last.day + 1) else [0, 0, 0] := by
  have hany : l.history.any (fun y => decide (last.day < y.day)) = true ↔
      ∃ y ∈ l.history, last.day < y.day := by simp
  unfold Lane.chartNext
  simp only [h, hany]
  split <;> rfl

section
variable {h : Held} {s : State}

theorem readChartBody_error {st : Status}
    (hc : s.checkSlot (byteAt h.frame.payload 0) = .error st) :
    readChartBody h s = .refuse s st := by simp [readChartBody, hc]

variable {i : Slot} (hc : s.checkSlot (byteAt h.frame.payload 0) = .ok i)
include hc

theorem readChartBody_badValue (hb : 32 < byteAt h.frame.payload 3) :
    readChartBody h s = .refuse s .badValue := by simp [readChartBody, hc, hb]

theorem readChartBody_ok (hb : byteAt h.frame.payload 3 ≤ 32) :
    readChartBody h s = .done s .ok
      (chartPayload i (s.lane i) (wordAt h.frame.payload 1) (byteAt h.frame.payload 3)) := by
  simp [readChartBody, hc, Nat.not_lt.mpr hb]

end

/-- Settles O47: an entry's bytes by its kind, then head, page (`chartPage_spec`) and tail. -/
theorem readChartReport : Obligations.ReadChartReport := by
  refine ⟨fun x => ?_, fun s h r => ⟨fun hb => ?_, fun i hi => ⟨fun hv => ?_, fun hv hb => ?_,
    fun hv hb => ?_⟩⟩⟩
  · cases hb : x.body with
    | reading rerun notes rs v =>
      have hbytes := HistoryEntry.bytes_reading hb
      rw [funext ParamResult.bytes_eq] at hbytes
      exact ⟨hbytes, HistoryEntry.bytes_length_reading hb⟩
    | missing withdrawn =>
      exact ⟨HistoryEntry.bytes_missing hb, HistoryEntry.bytes_length_missing hb⟩
  · exact runCommand_refuse r (readChartBody_error (checkSlot_badValue hb))
  · exact runCommand_refuse r (readChartBody_error (checkSlot_unknownLane hi hv))
  · exact runCommand_refuse r (readChartBody_badValue (checkSlot_ok hi hv) hb)
  · obtain ⟨rest, hsplit, hsize, hcount, hnext⟩ :=
      chartPage_spec i (s.lane i) (wordAt h.frame.payload 1) (byteAt h.frame.payload 3)
    have run := runCommand_done r (readChartBody_ok (checkSlot_ok hi hv) hb)
    rw [chartPayload_eq] at run
    refine ⟨_, rest, _, hsplit, run, hsize, hcount, hnext, fun last => chartNext_bytes_of_last,
      fun hnil => ?_⟩
    rw [hnil, chartNext_nil]
    rfl

end Sys2Proof.Machine

namespace Sys2Proof.Machine

/-! ### The arithmetic of one parameter of a reading (R64 to R72) -/

/-- Division by a power of two rounds toward minus infinity (R66). -/
theorem smooth_eq_fdiv (k : Nat) (s e : Int) :
    smooth k s e = s + Int.fdiv (16 * e - s) (2 ^ k) := by
  rw [Int.fdiv_eq_ediv_of_nonneg _ (Int.pow_nonneg (by decide))]
  rfl

theorem verdictOf_eq (entry : PlanEntry) (runLimit : Nat) (tested : Bool) (e : Int)
    (x : ParamState) : verdictOf entry runLimit tested e x =
      if entry.act < e.natAbs then .action
      else if tested = true ∧ 16 * entry.drift < x.s.natAbs ∧ runLimit ≤ x.run.length then .drift
      else if entry.warn < e.natAbs then .warning else .ok := by
  simp only [verdictOf, gt_iff_lt, Bool.and_eq_true, decide_eq_true_eq]

section
variable (x : Settings) (sound tested : Bool) (entry : PlanEntry) (d : Int) (e : Option Int)
  (o : ParamState)

/-- S and run are updated while the chart is SOUND and held otherwise (R63, R66, R69). -/
theorem applyParam_chart : (applyParam x sound tested entry d e o).2 =
    if sound then ⟨o.s + Int.fdiv (16 * e.getD d - o.s) (2 ^ x.shift), stepRun (e.getD d) o.run⟩
    else o := by
  rw [← smooth_eq_fdiv]
  rfl

theorem applyParam_verdict : (applyParam x sound tested entry d e o).1.verdict =
    if entry.act < (e.getD d).natAbs then .action
    else if tested = true ∧
        16 * entry.drift < (applyParam x sound tested entry d e o).2.s.natAbs ∧
        x.runLimit ≤ (applyParam x sound tested entry d e o).2.run.length then .drift
    else if entry.warn < (e.getD d).natAbs then .warning else .ok :=
  verdictOf_eq ..

end

theorem applyParams_getElem? {x : Settings} {sound tested : Bool} {ps : List PlanEntry}
    {ds : List Int} {es : List (Option Int)} {os : List ParamState} {n : Nat} {p : PlanEntry}
    {d : Int} {e : Option Int} {o : ParamState} (hp : ps[n]? = some p) (hd : ds[n]? = some d)
    (he : es[n]? = some e) (ho : os[n]? = some o) :
    (applyParams x sound tested ps ds es os)[n]? = some (applyParam x sound tested p d e o) := by
  induction ps generalizing ds es os n with
  | nil => cases hp
  | cons p' ps ih =>
    match ds, es, os with
    | [], _, _ => cases hd
    | _ :: _, [], _ => cases he
    | _ :: _, _ :: _, [] => cases ho
    | d' :: ds, e' :: es, o' :: os =>
      rw [applyParams]
      cases n with
      | zero => cases hp; cases hd; cases he; cases ho; rfl
      | succ n => exact ih hp hd he ho

/-- The evaluated deviation of one parameter before saturation: its deviation less the center of the
recorded cohort, absent where no center is removed (R64). -/
def State.evaluatedDeviation (s : State) (day : Nat) (i : Slot) (r : Deviated) (n : Nat) :
    Option Int :=
  (s.removedCenters day r.cohort i).map fun cs => r.devs.getD n 0 - cs.getD n 0

section
variable {s : State} {day : Nat} {i : Slot} {l : Lane} {x : Settings} {r : Deviated} {n : Nat}
  (hdevs : r.devs.length = x.plan.length)
  (hcenters : ∀ cs, s.removedCenters day r.cohort i = some cs → cs.length = x.plan.length)
include hdevs hcenters

theorem rawEvaluated_getElem? (hn : n < x.plan.length) :
    (rawEvaluated r.devs (s.removedCenters day r.cohort i))[n]? =
      some (s.evaluatedDeviation day i r n) := by
  have hd : n < r.devs.length := hdevs.symm ▸ hn
  unfold State.evaluatedDeviation
  cases hc : s.removedCenters day r.cohort i with
  | none => simp [rawEvaluated, hd]
  | some cs =>
    have hcs : n < cs.length := (hcenters cs hc).symm ▸ hn
    simp [rawEvaluated, List.getD_eq_getElem?_getD, hd, hcs]

theorem readingResults_getElem? {pe : PlanEntry} {o : ParamState} (hpe : x.plan[n]? = some pe)
    (ho : l.params[n]? = some o) : ∃ d, r.devs[n]? = some d ∧
      (s.readingResults day i l x r)[n]? = some (applyParam x (l.chart == .sound)
        (l.state == .tracking && l.chart == .sound) pe d
        ((s.evaluatedDeviation day i r n).map saturate) o) := by
  have hn : n < x.plan.length := (List.getElem?_eq_some_iff.mp hpe).1
  refine ⟨_, List.getElem?_eq_getElem (hdevs.symm ▸ hn), applyParams_getElem? hpe
    (List.getElem?_eq_getElem (hdevs.symm ▸ hn)) ?_ ho⟩
  rw [List.getElem?_map, rawEvaluated_getElem? hdevs hcenters hn]
  rfl

/-- Saturation changed an evaluated deviation exactly when one of the plan's parameters has one
beyond its range (R64). -/
theorem evaluatedSaturated_iff : s.evaluatedSaturated day i r = true ↔
    ∃ n ∈ List.range x.plan.length, ∃ v ∈ (s.evaluatedDeviation day i r n).toList,
      v ≠ saturate v := by
  have hlen : (rawEvaluated r.devs (s.removedCenters day r.cohort i)).length = x.plan.length :=
    rawEvaluated_length hdevs hcenters
  have hany : ∀ o : Option Int, (o.any fun v => v != saturate v) = true ↔
      ∃ v ∈ o.toList, v ≠ saturate v := by
    intro o
    cases o <;> simp
  simp only [State.evaluatedSaturated, List.any_eq_true, hany, List.mem_iff_getElem?]
  constructor
  · rintro ⟨o, ⟨n, hn⟩, hv⟩
    have hlt : n < x.plan.length := hlen ▸ (List.getElem?_eq_some_iff.mp hn).1
    rw [rawEvaluated_getElem? hdevs hcenters hlt] at hn
    cases hn
    exact ⟨n, ⟨n, List.getElem?_range hlt⟩, hv⟩
  · rintro ⟨n, hn, hv⟩
    have hlt : n < x.plan.length := List.mem_range.mp (List.mem_iff_getElem?.mpr hn)
    exact ⟨_, ⟨n, rawEvaluated_getElem? hdevs hcenters hlt⟩, hv⟩

end

/-! ### The lane verdict (R73) -/

theorem Verdict.worse_eq (a b : Verdict) : (a.worse b = a ∧ b.code ≤ a.code) ∨
    (a.worse b = b ∧ a.code ≤ b.code) := by
  unfold Verdict.worse
  split
  · exact .inr ⟨rfl, by omega⟩
  · exact .inl ⟨rfl, by omega⟩

theorem foldl_worse_spec (a : Verdict) (vs : List Verdict) :
    (vs.foldl Verdict.worse a = a ∨ vs.foldl Verdict.worse a ∈ vs) ∧
      a.code ≤ (vs.foldl Verdict.worse a).code ∧
      ∀ v ∈ vs, v.code ≤ (vs.foldl Verdict.worse a).code := by
  induction vs generalizing a with
  | nil => exact ⟨.inl rfl, le_refl _, fun v hv => by cases hv⟩
  | cons b vs ih =>
    obtain ⟨hmem, hle, hall⟩ := ih (a.worse b)
    rw [List.foldl_cons]
    have hab : a.code ≤ (a.worse b).code ∧ b.code ≤ (a.worse b).code := by
      rcases Verdict.worse_eq a b with ⟨h, hc⟩ | ⟨h, hc⟩ <;> rw [h] <;> omega
    refine ⟨?_, hab.1.trans hle, fun v hv => ?_⟩
    · rcases hmem with hmem | hmem
      · rw [hmem]
        rcases Verdict.worse_eq a b with ⟨h, -⟩ | ⟨h, -⟩ <;> rw [h] <;> simp
      · exact .inr (List.mem_cons_of_mem _ hmem)
    · rcases List.mem_cons.mp hv with rfl | hv
      · exact hab.2.trans hle
      · exact hall v hv

/-- The lane verdict is the worst verdict present, OK when there is none other. -/
theorem worstVerdict_eq (vs : List Verdict) : worstVerdict vs =
    if .action ∈ vs then .action else if .drift ∈ vs then .drift
    else if .warning ∈ vs then .warning else .ok := by
  obtain ⟨hmem, -, hmax⟩ := foldl_worse_spec .ok vs
  change worstVerdict vs = _ ∨ worstVerdict vs ∈ vs at hmem
  change ∀ v ∈ vs, v.code ≤ (worstVerdict vs).code at hmax
  have absent : ∀ v : Verdict, (worstVerdict vs).code < v.code → v ∉ vs :=
    fun v hv hm => absurd (hmax v hm) (not_le.mpr hv)
  cases hw : worstVerdict vs <;> rw [hw] at hmem absent
  case action => rw [if_pos (hmem.resolve_left (by decide))]
  case drift =>
    rw [if_neg (absent .action (by decide)), if_pos (hmem.resolve_left (by decide))]
  case warning =>
    rw [if_neg (absent .action (by decide)), if_neg (absent .drift (by decide)),
      if_pos (hmem.resolve_left (by decide))]
  case ok =>
    rw [if_neg (absent .action (by decide)), if_neg (absent .drift (by decide)),
      if_neg (absent .warning (by decide))]

theorem laneVerdict_eq (results : List ParamResult) : worstVerdict (results.map (·.verdict)) =
    if ∃ q ∈ results, q.verdict = .action then .action
    else if ∃ q ∈ results, q.verdict = .drift then .drift
    else if ∃ q ∈ results, q.verdict = .warning then .warning else .ok := by
  simp only [worstVerdict_eq, List.mem_map]

/-- The parameters with a verdict, by their number in the plan (R74). -/
theorem paramsWith_eq {rs : List (ParamResult × ParamState)} {n : Nat} (hlen : rs.length = n)
    (v : Verdict) : paramsWith v rs =
      (List.range n).filter fun m => (rs.map (·.1))[m]?.any fun q => q.verdict == v := by
  unfold paramsWith indicesWhere
  rw [List.length_map, hlen]
  refine List.filter_congr fun m _ => ?_
  rw [List.getD_eq_getElem?_getD, List.getElem?_map, List.getElem?_map]
  cases rs[m]? <;> rfl

/-! ### The lane before and after a reading (R36, R37) -/

/-- The lane that a reading of a lot is applied to: switched when the lot is not the effective one, its
counters still those before the switch. -/
def Lane.atReading (day : Nat) (x : Settings) (lot : Nat) (l : Lane) : Lane :=
  if l.effective = some lot then l
  else { l.switchLot day x with quiet := l.quiet, dormancy := l.dormancy }

/-- A reading reloads both counters, so those it finds play no part (R138). -/
theorem applyReading_counters (s : State) (d : Nat) (i : Slot) (l : Lane) (x : Settings)
    (e : StripEntry) (switched : Bool) (quiet dormancy : Nat) :
    applyReading s d i { l with quiet := quiet, dormancy := dormancy } x e switched =
      applyReading s d i l x e switched := rfl

/-- The settle countdown, field by field: `counts` says that the day counts (R37). -/
theorem Lane.settleCountdown_fields (day : Nat) (l : Lane) {counts : Prop} [Decidable counts]
    (hcounts : counts ↔ l.state = .settling ∧ ∃ n, l.effectiveSince = some n ∧ n < day) :
    l.settleCountdown day = { l with
      settleRemaining := if counts then l.settleRemaining - 1 else l.settleRemaining
      state := if counts ∧ (if counts then l.settleRemaining - 1 else l.settleRemaining) = 0 then
        .tracking else l.state } := by
  have hsince : l.effectiveSince.any (· < day) = true ↔
      ∃ n, l.effectiveSince = some n ∧ n < day := by
    cases l.effectiveSince <;> simp
  unfold Lane.settleCountdown
  by_cases hc : counts
  · obtain ⟨hstate, hday⟩ := hcounts.mp hc
    simp only [hc, hstate, hsince.mpr hday, true_and, and_self, if_true]
  · have hno : ¬ (l.state = .settling ∧ l.effectiveSince.any (· < day) = true) := by
      rwa [hsince, ← hcounts]
    simp only [if_neg hno, hc, false_and, if_false]

theorem appendHistory_eq (x : HistoryEntry) (l : List HistoryEntry) :
    appendHistory x l = (if 32 ≤ l.length then l.tail else l) ++ [x] := by
  unfold appendHistory
  rw [List.drop_one]

theorem Lane.afterReading_fields (day : Nat) (x : Settings) (entry : HistoryEntry)
    (rs : List (ParamResult × ParamState)) (l : Lane) {counts : Prop} [Decidable counts]
    (hcounts : counts ↔ l.state = .settling ∧ ∃ n, l.effectiveSince = some n ∧ n < day) :
    l.afterReading day x entry rs = { l with
      params := rs.map (·.2)
      latestVerdict := some (worstVerdict ((rs.map (·.1)).map (·.verdict)))
      quiet := x.quietLimit
      dormancy := x.dormancyLimit
      history := (if 32 ≤ l.history.length then l.history.tail else l.history) ++ [entry]
      lastApplied := some day
      settleRemaining := if counts then l.settleRemaining - 1 else l.settleRemaining
      state := if counts ∧ (if counts then l.settleRemaining - 1 else l.settleRemaining) = 0 then
        .tracking else l.state } := by
  refine (Lane.settleCountdown_fields (counts := counts) day _ ?_).trans ?_
  · exact hcounts
  rw [appendHistory_eq, List.map_map]
  rfl

/-! ### APPLY_STEP of a reading (R105, R106) -/

theorem Stage.next_apply (i : Slot) : (Stage.apply i).next =
    if h : i.val + 1 < 128 then .apply ⟨i.val + 1, h⟩ else .applied := by
  by_cases h : i.val + 1 < 128 <;> simp [Stage.next, succFin, h]

theorem execApplyStep_of_dayAt {s : State} {d : Nat} {i : Slot} {k : SheetNo}
    (hd : s.DayAt d (.apply i)) (hk : s.evaluatingSheet d = some k) :
    exec .applyStep s = stepTo (Stage.apply i).next (applySlot s d k i) := by
  obtain ⟨j, hstep, hkind⟩ := State.stepping_of_dayAt hd
  show execApplyStep s = _
  simp only [execApplyStep, hstep, hkind, JobKind.day?, hk]

section
variable {s : State} {d : Nat} {i : Slot} {l : Lane} {x : Settings} {e : StripEntry}

theorem applyLots_effective (heff : l.effective = some e.lot) :
    applyLots s d i l x (some e) = applyReading s d i l x e false := if_pos heff

theorem applyLots_pending (heff : l.effective ≠ some e.lot) (hpend : l.pendingLot = some e.lot) :
    applyLots s d i l x (some e) = applyReading s d i (l.switchLot d x) x e true :=
  (if_neg heff).trans (if_pos hpend)

end

/-- APPLY takes every lane that has an entry (R105). -/
theorem takenByApply_entry {l : Lane} (hv : l.state ≠ .vacant) (e : StripEntry) :
    takenByApply l (some e) = true := by
  unfold takenByApply
  cases hs : l.state with
  | vacant => exact absurd hs hv
  | enrolled | settling | tracking | suspended => rfl

theorem applySlot_reading {s : State} {d : Nat} {k : SheetNo} {i : Slot} {e : StripEntry}
    {x : Settings} (he : (s.sheet k).entries.get i = some e)
    (hx : s.laneSettings (s.lane i) = some x)
    (hday : ∀ n, (s.lane i).lastApplied = some n → n < d) (hv : (s.lane i).state ≠ .vacant)
    (hs : (s.lane i).state ≠ .suspended)
    (hlot : (s.lane i).effective = some e.lot ∨ (s.lane i).pendingLot = some e.lot) :
    applySlot s d k i = applyReading s d i ((s.lane i).atReading d x e.lot) x e
      (decide ((s.lane i).effective ≠ some e.lot)) := by
  have hfresh : (s.lane i).lastApplied.any (d ≤ ·) = false := by
    cases hl : (s.lane i).lastApplied with
    | none => rfl
    | some n => simpa using hday n hl
  have hlots : applySlot s d k i = applyLots s d i (s.lane i) x (some e) := by
    simp [applySlot, he, takenByApply_entry hv, hfresh, hs, hx]
  rw [hlots]
  unfold Lane.atReading
  by_cases heff : (s.lane i).effective = some e.lot
  · rw [applyLots_effective heff, if_pos heff, decide_eq_false (not_not.mpr heff)]
  · rw [applyLots_pending heff (hlot.resolve_left heff), if_neg heff, decide_eq_true heff]
    exact (applyReading_counters ..).symm

theorem applyReading_ok_eq {s : State} {d : Nat} {i : Slot} {l : Lane} {x : Settings}
    {e : StripEntry} {switched : Bool} {r : Deviated} (hr : e.result = some r)
    (hc : l.chart ≠ .rebuilding) : applyReading s d i l x e switched =
      .ok ((s.setLane i (l.afterReading d x
        (readingEntry d l e r switched (s.lacksCenter d r) (s.evaluatedSaturated d i r)
          ((s.readingResults d i l x r).map (·.1))) (s.readingResults d i l x r))).raiseAll
        (readingRaises d i r.refless (s.readingResults d i l x r))) := by
  simp only [applyReading, hr, if_neg hc]

theorem Cohort.isAnchor_eq (x : Cohort) (i : Slot) :
    x.isAnchor i = decide (x.mode = .anchor (some i)) := by
  unfold Cohort.isAnchor
  cases x.mode with
  | median q => simp
  | anchor a => simp [beq_eq_decide]

/-- The center of a reading's recorded cohort and whether the lane is its anchor (R64). -/
theorem State.anchors_eq (s : State) (c : Option CohortId) (i : Slot) : s.anchors c i =
    match c with
    | none => false
    | some c => match s.cohort c with
      | none => false
      | some y => decide (y.mode = .anchor (some i)) := by
  cases c with
  | none => rfl
  | some c =>
    unfold State.anchors
    cases hc : s.cohort c with
    | none => simp [hc]
    | some y => simp [hc, y.isAnchor_eq i]

theorem State.evaluatedDeviation_eq (s : State) (day : Nat) (i : Slot) (r : Deviated) (n : Nat)
    {anchor : Bool} (ha : s.anchors r.cohort i = anchor) :
    s.evaluatedDeviation day i r n = match s.dayCenters day r.cohort with
      | none => none
      | some cs => if anchor then none else some (r.devs.getD n 0 - cs.getD n 0) := by
  unfold State.evaluatedDeviation State.removedCenters
  rw [ha]
  cases anchor <;> cases s.dayCenters day r.cohort <;> rfl

/-- The lane that a reading is applied to, field by field (R36). -/
theorem Lane.atReading_fields {day : Nat} {x : Settings} {lot : Nat} {l : Lane}
    (hlot : l.effective = some lot ∨ l.pendingLot = some lot) : l.atReading day x lot =
      if decide (l.effective ≠ some lot) then { l with
        effective := some lot, pendingLot := none, effOffsets := l.pendOffsets,
        pendOffsets := none, effectiveSince := some day,
        params := List.replicate l.params.length ⟨0, ⟨.zero, 0⟩⟩,
        settleRemaining := x.settleDays,
        state := if 0 < x.settleDays then .settling else .tracking }
      else l := by
  unfold Lane.atReading
  by_cases heff : l.effective = some lot
  · rw [if_pos heff, if_neg (by simpa using heff)]
  · rw [if_neg heff, if_pos (decide_eq_true heff), ← hlot.resolve_left heff, ← List.map_const']
    rfl

theorem Lane.atReading_params_length (day : Nat) (x : Settings) (lot : Nat) (l : Lane) :
    (l.atReading day x lot).params.length = l.params.length := by
  unfold Lane.atReading
  split
  · rfl
  · exact List.length_map ..

theorem Lane.atReading_chart (day : Nat) (x : Settings) (lot : Nat) (l : Lane) :
    (l.atReading day x lot).chart = l.chart := by
  unfold Lane.atReading
  split <;> rfl

/-- Settles O44: the step's effect from `applyReading_ok_eq`, each parameter from
`readingResults_getElem?`, and the lane's record from `Lane.afterReading_fields`. -/
theorem applyStepReading : Obligations.ApplyStepReading := by
  intro s d i k e r f x hd hk he hr hf ha hday hv hs hc hdevs hparams next old switched l hlot
    centers hcenters hclen anchor sound evaluated bounded
  have hx := laneSettings_eq_some.mpr ⟨f, hf, ha⟩
  have hl : old.atReading d x e.lot = l := Lane.atReading_fields hlot
  have hchart : l.chart ≠ .rebuilding := by rw [← hl, Lane.atReading_chart]; exact hc
  have hchartParams : l.params.length = x.plan.length := by
    rw [← hl, Lane.atReading_params_length]; exact hparams
  have hstep := execApplyStep_of_dayAt hd hk
  rw [applySlot_reading he hx hday hv hs hlot, hl, applyReading_ok_eq hr hchart] at hstep
  have hdayCenters : centers = s.dayCenters d r.cohort := hcenters
  subst hdayCenters
  have hanchor : s.anchors r.cohort i = anchor := State.anchors_eq ..
  have hev : evaluated = s.evaluatedDeviation d i r :=
    funext fun n => (s.evaluatedDeviation_eq d i r n hanchor).symm
  have hrem : ∀ cs, s.removedCenters d r.cohort i = some cs → cs.length = x.plan.length := by
    intro cs hcs
    unfold State.removedCenters at hcs
    split at hcs
    · cases hcs
    · exact hclen cs hcs
  clear_value evaluated l
  subst hev
  have hlen : (s.readingResults d i l x r).length = x.plan.length :=
    applyParams_length hdevs ((List.length_map ..).trans (rawEvaluated_length hdevs hrem)) hchartParams
  refine ⟨(s.readingResults d i l x r).map (·.1), (s.readingResults d i l x r).map (·.2), _, hstep,
    (List.length_map ..).trans hlen, (List.length_map ..).trans hlen, ?_, ?_⟩
  · intro n q new o pe hq hnew ho hpe used
    obtain ⟨dev, hdev, hres⟩ := readingResults_getElem? hdevs hrem hpe ho
    rw [List.getElem?_map, hres] at hq hnew
    cases hq; cases hnew
    refine ⟨hdev, rfl, applyParam_chart .., rfl, rfl, (applyParam_verdict ..).trans ?_⟩
    simp only [Bool.and_eq_true, and_assoc, beq_iff_eq, sound, decide_eq_true_eq]
    rfl
  · intro verdict counts remaining entry params
    have hverdict : _ = verdict := laneVerdict_eq ((s.readingResults d i l x r).map (·.1))
    have hraised : ∀ v, paramsWith v (s.readingResults d i l x r) = params v := paramsWith_eq hlen
    have hsat : s.evaluatedSaturated d i r = decide (∃ n ∈ List.range x.plan.length,
        ∃ v ∈ (s.evaluatedDeviation d i r n).toList, v ≠ bounded v) := by
      rw [Bool.eq_iff_iff, decide_eq_true_iff]
      exact evaluatedSaturated_iff hdevs hrem
    have hentry : readingEntry d l e r switched (s.lacksCenter d r) (s.evaluatedSaturated d i r)
        ((s.readingResults d i l x r).map (·.1)) = entry := by
      unfold readingEntry
      rw [hverdict, hsat]
      rfl
    rw [Stage.next_apply, hentry, Lane.afterReading_fields (counts := counts) d x _ _ _ Iff.rfl,
      hverdict]
    unfold readingRaises
    rw [hraised, hraised]

end Sys2Proof.Machine

namespace Sys2Proof.Machine

/-! ### The sheet ring through every step (R39, R40, R42, R96) -/

/-- Settles O55: every step is a chain of table changes and link moves, and each of them keeps the law
of the ring (`RingLaw.change`, `RingLaw.move`, packaged in `RingLaw.step`). -/
theorem ringLawKept : Obligations.RingLawKept := fun _ _ => RingLaw.step

end Sys2Proof.Machine

namespace Sys2Proof.Machine

/-! ### Patches in strip order (R47) -/

/-- Blocks of one length laid end to end, read at a place of the block `i`. -/
theorem flatMap_range_getElem? {α : Type} {f : Nat → List α} {m i c : Nat} (hc : c < m) :
    ∀ {n : Nat}, (∀ j < n, (f j).length = m) → i < n →
      ((List.range n).flatMap f)[m * i + c]? = (f i)[c]?
  | 0, _, hi => absurd hi (Nat.not_lt_zero i)
  | n + 1, hlen, hi => by
    have hlast : ((List.range n).flatMap f).length = m * n := by
      rw [List.length_flatMap, List.map_congr_left (g := fun _ => m) fun j hj =>
        hlen j (Nat.lt_succ_of_lt (List.mem_range.mp hj))]
      simp [Nat.mul_comm]
    rw [List.range_succ, List.flatMap_append, List.flatMap_singleton]
    rcases Nat.lt_succ_iff_lt_or_eq.mp hi with hlt | rfl
    · have hplace : m * i + c < m * n :=
        calc m * i + c < m * i + m := Nat.add_lt_add_left hc _
          _ = m * (i + 1) := (Nat.mul_succ m i).symm
          _ ≤ m * n := Nat.mul_le_mul_left m hlt
      rw [List.getElem?_append_left (hlast ▸ hplace)]
      exact flatMap_range_getElem? hc (fun j hj => hlen j (Nat.lt_succ_of_lt hj)) hlt
    · rw [List.getElem?_append_right (hlast ▸ Nat.le_add_right ..), hlast, Nat.add_sub_cancel_left]

theorem stripOrder_forward (n : Nat) (ds : List Nat) : stripOrder false n ds = ds := rfl

/-- REVERSE puts received patch n - 1 - i at strip patch i, its three densities together. -/
theorem stripOrder_reverse_getElem? {n i c : Nat} {ds : List Nat} (hlen : ds.length = 3 * n)
    (hi : i < n) (hc : c < 3) :
    (stripOrder true n ds)[3 * i + c]? = ds[3 * (n - 1 - i) + c]? := by
  have hthree : ∀ j < n, ((ds.drop (3 * (n - 1 - j))).take 3).length = 3 := fun j hj => by
    rw [List.length_take, List.length_drop]; omega
  rw [stripOrder, if_pos rfl, flatMap_range_getElem? hc hthree hi, List.getElem?_take_of_lt hc,
    List.getElem?_drop]

/-! ### STRIP READ: the lane and the day (R45) -/

section
variable {h : Held} {s : State}

theorem stripReadBody_unknownLane
    (hn : s.findLane ⟨wordAt h.frame.payload 0, byteAt h.frame.payload 2⟩ = none) :
    stripReadBody h s = .refuse s .unknownLane := by simp [stripReadBody, hn]

variable {i : Slot}
  (hi : s.findLane ⟨wordAt h.frame.payload 0, byteAt h.frame.payload 2⟩ = some i)
include hi

theorem stripReadBody_suspended (hs : (s.lane i).state = .suspended) :
    stripReadBody h s = .refuse s .suspended := by simp [stripReadBody, hi, hs]

variable {d : Nat} (hs : (s.lane i).state ≠ .suspended) (ho : s.openDay = some d)
include hs ho

theorem stripReadBody_staleDay (hd : wordAt h.frame.payload 3 < d) :
    stripReadBody h s = .refuse s .staleDay := by simp [stripReadBody, hi, hs, ho, hd]

theorem stripReadBody_earlyDay (hd : d + 1 < wordAt h.frame.payload 3) :
    stripReadBody h s = .refuse s .earlyDay := by
  have hnot : ¬ wordAt h.frame.payload 3 < d := by omega
  simp [stripReadBody, hi, hs, ho, hnot, hd]

/-- A read of a day of the window goes on to the checks of lot, layout and order. -/
theorem stripReadBody_window (h1 : d ≤ wordAt h.frame.payload 3)
    (h2 : wordAt h.frame.payload 3 ≤ d + 1) :
    stripReadBody h s = fileStrip h.frame.payload s i (wordAt h.frame.payload 3) := by
  simp [stripReadBody, hi, hs, ho, Nat.not_lt.mpr h1, Nat.not_lt.mpr h2]

end

/-! ### STRIP READ: lot, layout, order and the entry (R45 to R48) -/

section
variable {p : List Byte} {s : State} {i : Slot} {day : Nat}

theorem fileStrip_unknownLot (hn : s.findLot (wordAt p 5) = none) :
    fileStrip p s i day = .refuse s .unknownLot := by simp [fileStrip, hn]

variable {lot : LotRecord} (hl : s.findLot (wordAt p 5) = some lot)
include hl

theorem fileStrip_noLot (he : (s.lane i).state = .enrolled) (hp : (s.lane i).pendingLot = none) :
    fileStrip p s i day = .refuse s .noLot := by simp [fileStrip, hl, he, hp]

variable (hnot : ¬ ((s.lane i).state = .enrolled ∧ (s.lane i).pendingLot = none))
include hnot

theorem fileStrip_lotMismatch (hm : (s.lane i).hasLot (wordAt p 5) = false) :
    fileStrip p s i day = .refuse s .lotMismatch := by simp [fileStrip, hl, if_neg hnot, hm]

variable {x : Settings} (hm : (s.lane i).hasLot (wordAt p 5) = true)
  (hx : s.laneSettings (s.lane i) = some x)
include hm hx

theorem fileStrip_layout (hn : byteAt p 8 ≠ x.patchCount) :
    fileStrip p s i day = .refuse s .layout := by simp [fileStrip, hl, if_neg hnot, hm, hx, hn]

variable (hn : byteAt p 8 = x.patchCount)
include hn

theorem fileStrip_badValue (hb : 1 < byteAt p 7) :
    fileStrip p s i day = .refuse s .badValue := by
  simp [fileStrip, hl, if_neg hnot, hm, hx, hn, boolOf_eq_none hb]

theorem fileStrip_filed {k : SheetNo} (hb : byteAt p 7 ≤ 1) (hk : s.openSheet day = some k)
    {e : StripEntry} (he : intakeEntry ((s.sheet k).entries.get i) (wordAt p 5) (byteAt p 8)
      (decide (byteAt p 7 = 1)) (wordsAt p 9 (byteAt p 8 * 3)) = e) :
    fileStrip p s i day =
      .done (s.setEntry k i e) .ok (u8 i.val ++ u8 e.rerun ++ u8 (intakeNotes e.clamped)) := by
  rw [hn] at he
  simp [fileStrip, hl, if_neg hnot, hm, hx, hn, boolOf_of_le hb, hk, he]

end

/-- An entry of intake spelled out: strip order, clamped densities, rerun count and note (R47, R48). -/
theorem intakeEntry_eq (old : Option StripEntry) (code n : Nat) (reverse : Bool)
    (received : List Nat) : intakeEntry old code n reverse received =
      ⟨code, (stripOrder reverse n received).map (min 4000), match old with
        | none => 0
        | some e => min 15 (e.rerun + 1), decide (∃ v ∈ received, 4000 < v), none⟩ := by
  have hclamped : received.any (Config.maxDensity < ·) = decide (∃ v ∈ received, 4000 < v) := by
    rw [Bool.eq_iff_iff, List.any_eq_true, decide_eq_true_iff]
    simp [Config.maxDensity]
  rw [← hclamped]
  cases old <;> rfl

/-- The notes byte of an entry holds CLAMPED alone (R170, R172). -/
theorem intakeNotes_byte (clamped : Bool) :
    u8 (intakeNotes clamped) = [if clamped then 64 else 0] := by cases clamped <;> rfl

/-- Settles O32: strip order block by block, the checks one by one, then the entry filed. -/
theorem stripReadOutcome : Obligations.StripReadOutcome := by
  refine ⟨fun n ds hlen => ⟨stripOrder_forward n ds, fun i c => stripOrder_reverse_getElem? hlen⟩,
    fun s h r => ⟨fun hn => runCommand_refuse r (stripReadBody_unknownLane hn),
      fun i d hi ho => ⟨fun hs => runCommand_refuse r (stripReadBody_suspended hi hs),
        fun hs hd => runCommand_refuse r (stripReadBody_staleDay hi hs ho hd),
        fun hs hd => runCommand_refuse r (stripReadBody_earlyDay hi hs ho hd),
        fun hs h1 h2 => ?_⟩⟩⟩
  have hfile := stripReadBody_window hi hs ho h1 h2
  refine ⟨fun hn => runCommand_refuse r (hfile.trans (fileStrip_unknownLot hn)), fun lot hl =>
    ⟨fun he hp => runCommand_refuse r (hfile.trans (fileStrip_noLot hl he hp)),
      fun hnot he hp => runCommand_refuse r (hfile.trans (fileStrip_lotMismatch hl hnot ?_)),
      fun f x hnot hlot hf ha => ?_⟩⟩
  · simp [Lane.hasLot, he, hp]
  have hm := Lane.hasLot_iff.mpr hlot
  have hx := laneSettings_eq_some.mpr ⟨f, hf, ha⟩
  refine ⟨fun hn => runCommand_refuse r (hfile.trans (fileStrip_layout hl hnot hm hx hn)),
    fun hn hb => runCommand_refuse r (hfile.trans (fileStrip_badValue hl hnot hm hx hn hb)),
    fun k hn hb hk => ?_⟩
  intro clamped rerun entry
  have hentry : intakeEntry _ _ _ _ _ = entry := intakeEntry_eq ..
  have hfiled := hfile.trans (fileStrip_filed hl hnot hm hx hn hb hk hentry)
  rw [intakeNotes_byte] at hfiled
  exact runCommand_done r hfiled

end Sys2Proof.Machine

namespace Sys2Proof.Machine

/-! ### READ SHEET ENTRY (R52) -/

section
variable {h : Held} {s : State}

theorem readSheetEntryBody_unknownLane
    (hn : s.findLane ⟨wordAt h.frame.payload 0, byteAt h.frame.payload 2⟩ = none) :
    readSheetEntryBody h s = .refuse s .unknownLane := by simp [readSheetEntryBody, hn]

variable {i : Slot} {d : Nat}
  (hi : s.findLane ⟨wordAt h.frame.payload 0, byteAt h.frame.payload 2⟩ = some i)
  (ho : s.openDay = some d)
include hi ho

theorem readSheetEntryBody_staleDay (hd : wordAt h.frame.payload 3 < d) :
    readSheetEntryBody h s = .refuse s .staleDay := by simp [readSheetEntryBody, hi, ho, hd]

theorem readSheetEntryBody_earlyDay (hd : d + 1 < wordAt h.frame.payload 3) :
    readSheetEntryBody h s = .refuse s .earlyDay := by
  have hnot : ¬ wordAt h.frame.payload 3 < d := by omega
  simp [readSheetEntryBody, hi, ho, hnot, hd]

variable {k : SheetNo} (h1 : d ≤ wordAt h.frame.payload 3) (h2 : wordAt h.frame.payload 3 ≤ d + 1)
  (hk : s.openSheet (wordAt h.frame.payload 3) = some k)
include h1 h2 hk

theorem readSheetEntryBody_empty (hn : (s.sheet k).entries.get i = none) :
    readSheetEntryBody h s =
      .done s .ok (u8 i.val ++ u16 (wordAt h.frame.payload 3) ++ flag false) := by
  simp [readSheetEntryBody, hi, ho, Nat.not_lt.mpr h1, Nat.not_lt.mpr h2, hk, hn]

theorem readSheetEntryBody_held {e : StripEntry} (he : (s.sheet k).entries.get i = some e) :
    readSheetEntryBody h s =
      .done s .ok (u8 i.val ++ u16 (wordAt h.frame.payload 3) ++
        (flag true ++ u16 e.lot ++ u8 e.rerun ++ u8 (intakeNotes e.clamped))) := by
  simp [readSheetEntryBody, hi, ho, Nat.not_lt.mpr h1, Nat.not_lt.mpr h2, hk, he]

end

/-- Settles O33: the checks one by one, then the report by whether the sheet holds an entry. -/
theorem readSheetEntryReport : Obligations.ReadSheetEntryReport := by
  intro s h r
  refine ⟨fun hn => runCommand_refuse r (readSheetEntryBody_unknownLane hn), fun i d hi ho =>
    ⟨fun hd => runCommand_refuse r (readSheetEntryBody_staleDay hi ho hd),
      fun hd => runCommand_refuse r (readSheetEntryBody_earlyDay hi ho hd),
      fun k h1 h2 hk => ?_⟩⟩
  cases he : (s.sheet k).entries.get i with
  | none => exact runCommand_done r (readSheetEntryBody_empty hi ho h1 h2 hk he)
  | some e =>
    have hheld := readSheetEntryBody_held hi ho h1 h2 hk he
    rw [intakeNotes_byte] at hheld
    exact runCommand_done r hheld

/-! ### CLOSE DAY (R53, R100) -/

/-- The FREE sheet that is found is the lowest one. -/
theorem freeSheet_lowest {s : State} {k : SheetNo} (hk : s.freeSheet = some k) :
    ∀ m, m < k → (s.sheet m).state ≠ .free := fun m hm => by
  obtain ⟨-, hlow⟩ := Table.find_eq_some.mp hk
  simpa [State.sheet] using hlow m hm

section
variable {h : Held} {s : State}

theorem closeDayBody_otherDay (ho : s.openDay ≠ some (wordAt h.frame.payload 0)) :
    closeDayBody h s = .refuse s .badValue := by simp [closeDayBody, ho]

variable (ho : s.openDay = some (wordAt h.frame.payload 0))
include ho

theorem closeDayBody_lastDay (hmax : 65535 < wordAt h.frame.payload 0 + 2) :
    closeDayBody h s = .refuse s .badValue := by simp [closeDayBody, ho, Config.maxWord, hmax]

variable (hmax : wordAt h.frame.payload 0 + 2 ≤ 65535)
include hmax

theorem closeDayBody_busy (hc : 2 ≤ s.sheets.cells.countP Sheet.closed) :
    closeDayBody h s = .refuse s .busy := by
  simp [closeDayBody, ho, Config.maxWord, Nat.not_lt.mpr hmax, hc]

variable (hc : s.sheets.cells.countP Sheet.closed < 2)
include hc

theorem closeDayBody_full (hl : 8 ≤ s.queue.length) : closeDayBody h s = .refuse s .full := by
  simp [closeDayBody, ho, Config.maxWord, Config.maxJobs, Nat.not_lt.mpr hmax, Nat.not_le.mpr hc, hl]

theorem closeDayBody_queued (hl : s.queue.length < 8) {k free : SheetNo}
    (hk : s.openSheet (wordAt h.frame.payload 0) = some k) (hfree : s.freeSheet = some free) :
    closeDayBody h s =
      .done (s.closeDay (wordAt h.frame.payload 0) k free) .queued (u16 s.nextJobId) := by
  simp [closeDayBody, ho, Config.maxWord, Config.maxJobs, Nat.not_lt.mpr hmax, Nat.not_le.mpr hc,
    Nat.not_le.mpr hl, hk, hfree]

end

/-- The id counter after CLOSE DAY (R97): the ring's part of the effect holds no job id. -/
theorem closeDay_firstFree {s : State} (d : Nat) (k free : SheetNo) (q : QueueLaw s) :
    FirstFreeAfter (s.nextJobId :: s.heldJobIds) s.nextJobId (s.closeDay d k free).nextJobId :=
  State.joinJob_firstFree (.day d) q

/-- Settles O34: the checks one by one; a lawful ring has the sheet of D and a FREE one, and the state
after them is `State.closeDay`'s. -/
theorem closeDayOutcome : Obligations.CloseDayOutcome := by
  intro s h r
  refine ⟨fun ho => runCommand_refuse r (closeDayBody_otherDay ho), fun ho =>
    ⟨fun hmax => runCommand_refuse r (closeDayBody_lastDay ho hmax),
      fun hmax hc => runCommand_refuse r (closeDayBody_busy ho hmax hc),
      fun hmax hc hl => runCommand_refuse r (closeDayBody_full ho hmax hc hl),
      fun hmax hc hl hring => ?_⟩⟩
  obtain ⟨k, hk⟩ :=
    hring.openSheet_of_window ho (lt_irrefl _) (Nat.not_lt.mpr (Nat.le_succ _))
  obtain ⟨free, hfree⟩ := hring.freeSheet_of_closed_lt ho hc
  obtain ⟨hopened, hday⟩ := openSheet_eq_some hk
  exact ⟨k, free, _, closeDay_firstFree _ k free, hopened, hday, freeSheet_eq_some hfree,
    freeSheet_lowest hfree, runCommand_done r (closeDayBody_queued ho hmax hc hl hk hfree)⟩

end Sys2Proof.Machine

namespace Sys2Proof.Machine

/-! ### The bounds of the comparison through every step (R76) -/

/-- Settles O58: every table is empty after power-on, and every step is a chain of table changes and link
moves, each of which keeps the bounds (`BoundsLaw.change`, packaged in `BoundsLaw.step`). -/
theorem comparisonBoundsKept : Obligations.ComparisonBoundsKept :=
  ⟨BoundsLaw.reset, fun _ _ => BoundsLaw.step⟩

end Sys2Proof.Machine

namespace Sys2Proof.Machine

/-! ### The smoothing update (R66, R67) -/

section
variable (k : Nat) (s e : Int)

theorem smooth_sub : smooth k s e - s = (16 * e - s) / 2 ^ k := by
  unfold smooth
  omega

/-- The change of S is the difference over 2^k rounded down: the greatest multiple not above it. -/
theorem smooth_sub_mul_le : (smooth k s e - s) * 2 ^ k ≤ 16 * e - s := by
  rw [smooth_sub]
  exact Int.ediv_mul_le _ (Int.pow_pos (by decide)).ne'

theorem lt_smooth_sub_succ_mul : 16 * e - s < (smooth k s e - s + 1) * 2 ^ k := by
  rw [smooth_sub]
  exact Int.lt_ediv_add_one_mul_self _ (Int.pow_pos (by decide))

variable {s e}

theorem smooth_of_small_rise (h0 : 0 ≤ 16 * e - s) (h : 16 * e - s < 2 ^ k) : smooth k s e = s := by
  have hzero : (16 * e - s) / 2 ^ k = 0 := Int.ediv_eq_zero_of_lt h0 h
  have hsub := smooth_sub k s e
  omega

/-- S rises toward 16 e and not past it. -/
theorem smooth_rises (h : 0 ≤ 16 * e - s) : s ≤ smooth k s e ∧ smooth k s e ≤ 16 * e := by
  have hnonneg : 0 ≤ (16 * e - s) / 2 ^ k := Int.ediv_nonneg h (Int.pow_nonneg (by decide))
  have hle : (16 * e - s) / 2 ^ k ≤ 16 * e - s := Int.ediv_le_self _ h
  have hsub := smooth_sub k s e
  omega

/-- S falls toward 16 e by at least 1, and not past it: rounding down never makes a fall of 0. -/
theorem smooth_falls (h : 16 * e - s < 0) : 16 * e ≤ smooth k s e ∧ smooth k s e ≤ s - 1 := by
  have hpos : (0 : Int) < 2 ^ k := Int.pow_pos (by decide)
  have hneg : (16 * e - s) / 2 ^ k < 0 := Int.ediv_neg_of_neg_of_pos h hpos
  have hge : 16 * e - s ≤ (16 * e - s) / 2 ^ k := by
    rw [Int.le_ediv_iff_mul_le hpos]
    exact mul_le_of_one_le_right h.le hpos
  have hsub := smooth_sub k s e
  omega

end

/-! ### The run update (R69) -/

@[simp] theorem stepRun_zero (r : Run) : stepRun 0 r = Run.none := if_pos rfl

section
variable {e : Int} {r : Run}

theorem stepRun_of_pos (he : 0 < e) : stepRun e r =
    if r.sign = .minus then ⟨.plus, 1⟩ else ⟨.plus, min 255 (r.length + 1)⟩ :=
  (if_neg he.ne').trans (if_pos he)

theorem stepRun_of_neg (he : e < 0) : stepRun e r =
    if r.sign = .plus then ⟨.minus, 1⟩ else ⟨.minus, min 255 (r.length + 1)⟩ :=
  (if_neg he.ne).trans (if_neg he.not_gt)

/-- Exactly the run of length 0 has no sign. -/
theorem stepRun_length_eq_zero_iff : (stepRun e r).length = 0 ↔ (stepRun e r).sign = .zero := by
  have hgrown : min 255 (r.length + 1) ≠ 0 := by omega
  rcases lt_trichotomy e 0 with he | rfl | he
  · rw [stepRun_of_neg he]
    split <;> simp [hgrown]
  · simp [Run.none]
  · rw [stepRun_of_pos he]
    split <;> simp [hgrown]

end

/-- Settles O46: the three ways of S by the sign of the difference, the rounding by the division, and the
run by the sign of e. -/
theorem smoothingAndRunUpdate : Obligations.SmoothingAndRunUpdate := by
  refine ⟨fun k s e _ _ => ?_, fun e r _ _ _ => ?_⟩
  · refine ⟨fun h => ?_, smooth_rises k, smooth_of_small_rise k, smooth_falls k,
      smooth_sub_mul_le k s e, lt_smooth_sub_succ_mul k s e, smooth_inRange k⟩
    exact smooth_of_small_rise k h.ge (h ▸ Int.pow_pos (by decide))
  · refine ⟨fun he => ?_, fun he hs => (stepRun_of_pos he).trans (if_neg hs),
      fun he hs => (stepRun_of_pos he).trans (if_pos hs),
      fun he hs => (stepRun_of_neg he).trans (if_neg hs),
      fun he hs => (stepRun_of_neg he).trans (if_pos hs),
      stepRun_length_eq_zero_iff, stepRun_length e r⟩
    subst he
    exact stepRun_zero r

end Sys2Proof.Machine

namespace Sys2Proof.Machine

/-! ### DEVIATE_STEP (R57 to R61, R85, R103) -/

theorem Stage.next_deviate (i : Slot) : (Stage.deviate i).next =
    if h : i.val + 1 < 128 then .deviate ⟨i.val + 1, h⟩ else .center 0 := by
  by_cases h : i.val + 1 < 128 <;> simp [Stage.next, succFin, h]

theorem execDeviateStep_of_dayAt {s : State} {d : Nat} {i : Slot} {k : SheetNo}
    (hd : s.DayAt d (.deviate i)) (hk : s.evaluatingSheet d = some k) :
    exec .deviateStep s = stepTo (Stage.deviate i).next (deviateSlot s d k i) := by
  obtain ⟨j, hstep, hkind⟩ := State.stepping_of_dayAt hd
  show execDeviateStep s = _
  simp only [execDeviateStep, hstep, hkind, JobKind.day?, hk]

theorem deviateSlot_empty {s : State} {k : SheetNo} {i : Slot} (d : Nat)
    (he : (s.sheet k).entries.get i = none) : deviateSlot s d k i = .ok s := by
  simp only [deviateSlot, he]

theorem deviateSlot_entry {s : State} {d : Nat} {k : SheetNo} {i : Slot} {e : StripEntry}
    {x : Settings} {lot : LotRecord} {r : Deviated} (he : (s.sheet k).entries.get i = some e)
    (hx : s.laneSettings (s.lane i) = some x) (hlot : s.findLot e.lot = some lot)
    (hr : deviateEntry d (s.lane i) x lot e = some r) :
    deviateSlot s d k i = .ok (s.setSheet k { s.sheet k with
      entries := (s.sheet k).entries.set i (some { e with result := some r }) }) := by
  simp only [deviateSlot, he, hx, hlot, hr]

/-- DEVIATE's results once the plan has its values (R58 to R61). -/
theorem deviateEntry_of_values {d : Nat} {l : Lane} {x : Settings} {lot : LotRecord} {e : StripEntry}
    {values : List Int}
    (hv : planValues x.plan ((correct e.raw (l.offsetsFor e.lot)).map clampDensity) = some values) :
    deviateEntry d l x lot e = some
      { refless := (l.offsetsFor e.lot).isNone
        clamped := e.clamped || correct e.raw (l.offsetsFor e.lot) !=
          (correct e.raw (l.offsetsFor e.lot)).map clampDensity
        saturated := List.zipWith (fun v aim => v - aim) values lot.aims !=
          (List.zipWith (fun v aim => v - aim) values lot.aims).map saturate
        devs := (List.zipWith (fun v aim => v - aim) values lot.aims).map saturate
        cohort := l.cohort
        eligible := eligibleEntry d l e.lot (l.offsetsFor e.lot).isNone } := by
  simp only [deviateEntry, hv, Option.map_some]

/-- Eligibility, condition by condition (R85). -/
theorem eligibleEntry_iff {day code : Nat} {l : Lane} {os : Option (List Int)} :
    eligibleEntry day l code os.isNone = true ↔ l.state = .tracking ∧ l.effective = some code ∧
      os.isSome = true ∧ l.cohort.isSome = true ∧ ∃ n, l.effectiveSince = some n ∧ n < day := by
  simp [eligibleEntry, and_assoc, Option.any_eq_true, Option.isSome_iff_ne_none]

/-- Settles O42: nothing without an entry (`deviateSlot_empty`); otherwise the results are those of
`deviateEntry_of_values`, read off note by note. -/
theorem deviateStepEffect : Obligations.DeviateStepEffect := by
  intro s d i k hd hk next l
  have hstep := execDeviateStep_of_dayAt hd hk
  rw [Stage.next_deviate] at hstep
  refine ⟨fun he => by rw [hstep, deviateSlot_empty d he]; rfl, ?_⟩
  intro e f x lot he hf ha hlot offsets values hoffsets corrected clamped hvalues diffs devs
  change offsets = l.offsetsFor e.lot at hoffsets
  subst hoffsets
  have hcorrected : correct e.raw (l.offsetsFor e.lot) = corrected := rfl
  have hx : s.laneSettings l = some x := laneSettings_eq_some.mpr ⟨f, hf, ha⟩
  have hr := deviateEntry_of_values (d := d) (lot := lot) hvalues
  rw [hcorrected] at hr
  rw [deviateSlot_entry he hx hlot hr] at hstep
  refine ⟨_, hstep, rfl, rfl, ?_, bne_iff_ne, rfl, eligibleEntry_iff⟩
  rw [Bool.or_eq_true, bne_iff_ne]
  rfl

end Sys2Proof.Machine

namespace Sys2Proof.Machine

/-! ### A COHORT SET payload (R80 check 1) -/

theorem memberSlots_cons_eq_some {n : Nat} {ns : List Nat} {ms : List Slot} :
    memberSlots (n :: ns) = some ms ↔
      ∃ i is, ms = i :: is ∧ n = i.val ∧ memberSlots ns = some is := by
  simp only [← idOf_eq_some]
  rw [memberSlots]
  split
  · rename_i i is hi his
    simp [hi, his, eq_comm]
  · rename_i hnone
    refine iff_of_false (fun h => by cases h) ?_
    rintro ⟨i, is, -, hi, his⟩
    exact hnone i is hi his

theorem memberSlots_eq_some {ns : List Nat} {ms : List Slot} :
    memberSlots ns = some ms ↔ ms.map (·.val) = ns := by
  induction ns generalizing ms with
  | nil => cases ms <;> simp [memberSlots]
  | cons n ns ih =>
    rw [memberSlots_cons_eq_some, List.map_eq_cons_iff]
    simp only [ih]
    exact exists_congr fun i => exists_congr fun is => and_congr_right' (and_congr_left' eq_comm)

/-- The modes of R80 check 1, each with the field that it uses. -/
theorem cohortModeOf_eq_some_iff {mode quorum anchor : Nat} {ms : List Slot} {m : CohortMode} :
    cohortModeOf mode quorum anchor ms = some m ↔
      (mode = 0 ∧ (3 ≤ quorum ∧ quorum ≤ 16 ∧ quorum ≤ ms.length) ∧ m = .median quorum) ∨
        (mode = 1 ∧ ∃ a ∈ ms, anchor = a.val ∧ m = .anchor (some a)) := by
  simp only [← idOf_eq_some]
  unfold cohortModeOf
  split
  · rename_i h0
    simp [h0, eq_comm]
  split
  · rename_i h1
    cases idOf 128 anchor with
    | none => simp [h1]
    | some b => simp [h1, eq_comm]
  · rename_i h0 h1
    simp [h0, h1]

theorem cohortRequestOf_eq_some_iff {p : List Byte} {r : CohortRequest} :
    cohortRequestOf p = some r ↔ byteAt p 0 = r.id.val ∧ byteAt p 1 = r.family.val ∧
      r.members.map (·.val) = memberBytes p ∧
      1 ≤ r.members.length ∧ r.members.length ≤ 16 ∧ r.members.Nodup ∧
      cohortModeOf (byteAt p 2) (byteAt p 3) (byteAt p 4) r.members = some r.mode := by
  rw [← idOf_eq_some, ← idOf_eq_some, ← memberSlots_eq_some]
  constructor
  · intro h
    unfold cohortRequestOf at h
    split at h
    · rename_i c f ms hc hf hms
      split at h
      · cases h
      · rename_i hsize
        obtain ⟨m, hm, rfl⟩ := Option.map_eq_some_iff.mp h
        obtain ⟨hpos, hle, hnodup⟩ : _ ∧ _ ∧ _ := by simpa only [not_or, not_not] using hsize
        exact ⟨hc, hf, hms, Nat.pos_of_ne_zero hpos, not_lt.mp hle, hnodup, hm⟩
    · cases h
  · rintro ⟨hc, hf, hms, hpos, hle, hnodup, hm⟩
    have hsize : ¬ (r.members.length = 0 ∨ 16 < r.members.length ∨ ¬ r.members.Nodup) := by
      simp only [not_or, not_not]
      exact ⟨Nat.ne_of_gt hpos, not_lt.mpr hle, hnodup⟩
    simp only [cohortRequestOf, hc, hf, hms, if_neg hsize, hm, Option.map_some]

/-- The operands that R80 check 1 accepts. -/
def SoundCohortSet (p : List Byte) : Prop :=
  byteAt p 0 ≤ 15 ∧ byteAt p 1 ≤ 3 ∧ 1 ≤ byteAt p 5 ∧ byteAt p 5 ≤ 16 ∧
    (∀ n ∈ memberBytes p, n ≤ 127) ∧ (memberBytes p).Nodup ∧
    (byteAt p 2 = 0 ∧ 3 ≤ byteAt p 3 ∧ byteAt p 3 ≤ 16 ∧ byteAt p 3 ≤ byteAt p 5 ∨
      byteAt p 2 = 1 ∧ byteAt p 4 ∈ memberBytes p)

theorem length_of_memberBytes {p : List Byte} {ms : List Slot}
    (hms : ms.map (·.val) = memberBytes p) : ms.length = byteAt p 5 := by
  simpa [memberBytes] using congrArg List.length hms

theorem nodup_of_memberBytes {p : List Byte} {ms : List Slot}
    (hms : ms.map (·.val) = memberBytes p) : (memberBytes p).Nodup ↔ ms.Nodup := by
  rw [← hms, List.nodup_map_iff Fin.val_injective]

/-- What passes check 1 is sound. -/
theorem SoundCohortSet.of_request {p : List Byte} {r : CohortRequest}
    (h : cohortRequestOf p = some r) : SoundCohortSet p := by
  obtain ⟨hc, hf, hms, hpos, hle, hnodup, hmode⟩ := cohortRequestOf_eq_some_iff.mp h
  have hlen := length_of_memberBytes hms
  refine ⟨by omega, by omega, hlen ▸ hpos, hlen ▸ hle, fun n hn => ?_,
    (nodup_of_memberBytes hms).mpr hnodup, ?_⟩
  · obtain ⟨i, -, rfl⟩ := List.mem_map.mp (hms ▸ hn)
    omega
  · rcases cohortModeOf_eq_some_iff.mp hmode with ⟨h0, hq, -⟩ | ⟨h1, a, ha, hbyte, -⟩
    · exact .inl ⟨h0, hlen ▸ hq⟩
    · rw [hbyte, ← hms]
      exact .inr ⟨h1, List.mem_map_of_mem ha⟩

/-- The mode of a sound payload: MEDIAN with its quorum, or ANCHOR with the member named. -/
def requestedMode (p : List Byte) (ms : List Slot) : CohortMode :=
  if byteAt p 2 = 0 then .median (byteAt p 3) else .anchor (ms.find? fun i => i.val == byteAt p 4)

theorem find?_val_eq {ms : List Slot} {a : Slot} (h : a ∈ ms) :
    (ms.find? fun i => i.val == a.val) = some a := by
  obtain ⟨b, hb⟩ := Option.isSome_iff_exists.mp
    (List.find?_isSome (p := fun i : Slot => i.val == a.val) |>.mpr ⟨a, h, by simp⟩)
  have hval : b.val = a.val := by simpa using List.find?_some hb
  rw [hb, Fin.ext hval]

theorem SoundCohortSet.mode {p : List Byte} {ms : List Slot} (h : SoundCohortSet p)
    (hms : ms.map (·.val) = memberBytes p) :
    cohortModeOf (byteAt p 2) (byteAt p 3) (byteAt p 4) ms = some (requestedMode p ms) := by
  obtain ⟨-, -, -, -, -, -, ⟨h0, hq⟩ | ⟨h1, hmem⟩⟩ := h
  · refine cohortModeOf_eq_some_iff.mpr (.inl ⟨h0, ?_, if_pos h0⟩)
    rwa [length_of_memberBytes hms]
  · rw [← hms] at hmem
    obtain ⟨a, ha, hval⟩ := List.mem_map.mp hmem
    refine cohortModeOf_eq_some_iff.mpr (.inr ⟨h1, a, ha, hval.symm, ?_⟩)
    have hne : ¬ byteAt p 2 = 0 := by omega
    rw [requestedMode, if_neg hne, ← hval, find?_val_eq ha]

theorem SoundCohortSet.request {p : List Byte} {c : CohortId} {f : FamilyId} {ms : List Slot}
    (h : SoundCohortSet p) (hc : byteAt p 0 = c.val) (hf : byteAt p 1 = f.val)
    (hms : ms.map (·.val) = memberBytes p) :
    cohortRequestOf p = some ⟨c, f, requestedMode p ms, ms⟩ := by
  obtain ⟨-, -, hpos, hle, -, hnodup, -⟩ := id h
  have hlen := length_of_memberBytes hms
  exact cohortRequestOf_eq_some_iff.mpr ⟨hc, hf, hms, hlen ▸ hpos, hlen ▸ hle,
    (nodup_of_memberBytes hms).mp hnodup, h.mode hms⟩

/-! ### The members of a COHORT SET (R80 checks 3 to 5) -/

/-- The first member that fails a check, in the order supplied. -/
theorem find?_first_failing {ms before after : List Slot} {i : Slot} {bad : Slot → Bool}
    {good : Slot → Prop} (hbad : ∀ j, bad j = true ↔ ¬ good j) (hms : ms = before ++ i :: after)
    (hbefore : ∀ j ∈ before, good j) (hi : ¬ good i) : ms.find? bad = some i := by
  refine List.find?_eq_some_iff_append.mpr ⟨(hbad i).mpr hi, before, after, hms, fun j hj => ?_⟩
  have hfine : ¬ bad j = true := fun hb => (hbad j).mp hb (hbefore j hj)
  simpa using hfine

theorem find?_none_failing {ms : List Slot} {bad : Slot → Bool} {good : Slot → Prop}
    (hbad : ∀ j, bad j = true ↔ ¬ good j) (hall : ∀ j ∈ ms, good j) : ms.find? bad = none :=
  List.find?_eq_none.mpr fun j hj hb => (hbad j).mp hb (hall j hj)

theorem vacant_iff (s : State) (i : Slot) :
    ((s.lane i).state == .vacant) = true ↔ ¬ (s.lane i).state ≠ .vacant := by simp

theorem otherFamily_iff (s : State) (f : FamilyId) (i : Slot) :
    ((s.lane i).family != some f) = true ↔ ¬ (s.lane i).family = some f := by simp

theorem boundElsewhere_iff (s : State) (c : CohortId) (i : Slot) :
    ((s.lane i).cohort.isSome && (s.lane i).cohort != some c) = true ↔
      ¬ ((s.lane i).cohort = none ∨ (s.lane i).cohort = some c) := by
  simp [Option.isSome_iff_ne_none]

section
variable {s : State} {q : CohortRequest} {i : Slot}

theorem memberRefusal_unknownLane
    (hi : (q.members.find? fun j => (s.lane j).state == .vacant) = some i) :
    memberRefusal s q = some (.unknownLane, i) := by simp only [memberRefusal, hi]

variable (hpresent : ∀ j ∈ q.members, (s.lane j).state ≠ .vacant)
include hpresent

theorem memberRefusal_lotMismatch
    (hi : (q.members.find? fun j => (s.lane j).family != some q.family) = some i) :
    memberRefusal s q = some (.lotMismatch, i) := by
  simp only [memberRefusal, find?_none_failing (vacant_iff s) hpresent, hi]

variable (hfamily : ∀ j ∈ q.members, (s.lane j).family = some q.family)
include hfamily

/-- Past checks 3 and 4 the cohort field of the lanes decides. -/
theorem memberRefusal_of_family : memberRefusal s q = (q.members.find? fun j =>
    (s.lane j).cohort.isSome && (s.lane j).cohort != some q.id).map fun i => (.inUse, i) := by
  simp only [memberRefusal, find?_none_failing (vacant_iff s) hpresent,
    find?_none_failing (otherFamily_iff s q.family) hfamily]
  split <;> simp [*]

end

/-! ### COHORT SET (R80, R81) -/

section
variable {h : Held} {s : State}

theorem cohortSetBody_badValue (hb : cohortRequestOf h.frame.payload = none) :
    cohortSetBody h s = .refuse s .badValue := by simp [cohortSetBody, hb]

variable {q : CohortRequest} (hq : cohortRequestOf h.frame.payload = some q)
include hq

theorem cohortSetBody_unknownFamily (ha : (s.family q.family).active = none) :
    cohortSetBody h s = .refuse s .unknownFamily := by simp [cohortSetBody, hq, ha]

variable (ha : (s.family q.family).active ≠ none)
include ha

theorem cohortSetBody_member {st : Status} {i : Slot} (hm : memberRefusal s q = some (st, i)) :
    cohortSetBody h s = .done s st (u8 i.val) := by simp [cohortSetBody, hq, ha, hm]

variable (hm : memberRefusal s q = none)
include hm

theorem cohortSetBody_busy (hday : s.dayRunning = true) :
    cohortSetBody h s = .refuse s .busy := by simp [cohortSetBody, hq, ha, hm, hday]

theorem cohortSetBody_ok (hday : s.dayRunning = false) :
    cohortSetBody h s = .done (s.formCohort q) .ok
      (u8 q.id.val ++ u8 q.members.length ++ (sortAscending q.members).flatMap (fun i => u8 i.val)
        ++ u8 (leavers s q).length) := by simp [cohortSetBody, hq, ha, hm, hday]

end

/-- The lanes after COHORT SET, by the new and the former members (R81). -/
theorem formCohort_lane_of_members (s : State) (q : CohortRequest) (i : Slot) :
    (s.formCohort q).lane i = if i ∈ q.members then { s.lane i with cohort := some q.id }
      else if i ∈ membersOf (s.cohort q.id) then { s.lane i with cohort := none }
      else s.lane i := by
  rw [formCohort_lane]
  by_cases hi : i ∈ q.members
  · rw [if_pos hi, if_pos hi]
  · simp [leavers, hi]

theorem leavers_length (s : State) (q : CohortRequest) : (leavers s q).length =
    (membersOf (s.cohort q.id)).countP fun i => !q.members.contains i :=
  List.countP_eq_length_filter.symm

/-- Settles O35: soundness of the operands as the request of check 1 (`SoundCohortSet.of_request`,
`SoundCohortSet.request`), then the members check by check, and the record of R81. -/
theorem cohortSetOutcome : Obligations.CohortSetOutcome := by
  intro s h r p k ns sound
  refine ⟨fun hnot => ?_, fun c f ms hsound hc hf hms => ?_⟩
  · refine runCommand_refuse r (cohortSetBody_badValue (Option.eq_none_iff_forall_ne_some.mpr ?_))
    exact fun q hq => hnot (SoundCohortSet.of_request hq)
  have hq := SoundCohortSet.request hsound hc hf hms
  refine ⟨fun ha => runCommand_refuse r (cohortSetBody_unknownFamily hq ha), fun ha => ?_⟩
  intro refusal present ofFamily unbound
  refine ⟨fun before i after hsplit hbefore hi => ?_,
    fun hpresent before i after hsplit hbefore hi => ?_,
    fun hpresent hfamily before i after hsplit hbefore hi => ?_, fun hgood => ?_⟩
  · have hfirst := find?_first_failing (vacant_iff s) hsplit hbefore hi
    exact runCommand_done r (cohortSetBody_member hq ha (memberRefusal_unknownLane hfirst))
  · have hfirst := find?_first_failing (otherFamily_iff s f) hsplit hbefore hi
    exact runCommand_done r (cohortSetBody_member hq ha (memberRefusal_lotMismatch hpresent hfirst))
  · have hfirst := find?_first_failing (boundElsewhere_iff s c) hsplit hbefore hi
    refine runCommand_done r (cohortSetBody_member hq ha ?_)
    rw [memberRefusal_of_family hpresent hfamily, hfirst, Option.map_some]
  have hm : memberRefusal s ⟨c, f, requestedMode p ms, ms⟩ = none := by
    rw [memberRefusal_of_family (fun i hi => (hgood i hi).1) fun i hi => (hgood i hi).2.1,
      find?_none_failing (boundElsewhere_iff s c) fun i hi => (hgood i hi).2.2, Option.map_none]
  refine ⟨fun hday => runCommand_refuse r (cohortSetBody_busy hq ha hm hday), fun hday => ?_⟩
  intro old
  have run := runCommand_done r (cohortSetBody_ok hq ha hm hday)
  rw [leavers_length, length_of_memberBytes hms] at run
  obtain ⟨lanes, hframe⟩ := s.formCohort_frame ⟨c, f, requestedMode p ms, ms⟩
  refine ⟨_, sortAscending ms, sortAscending_sorted ms, sortAscending_perm ms, run, ?_,
    fun d hd => ?_, formCohort_lane_of_members s _, lanes, _, hframe⟩
  · exact (formCohort_cohort ..).trans (if_pos rfl)
  · exact (formCohort_cohort ..).trans (if_neg hd.symm)

end Sys2Proof.Machine

namespace Sys2Proof.Machine

/-! ### COHORT DISSOLVE (R83) -/

section
variable {h : Held} {s : State}

theorem cohortDissolveBody_badValue (hb : 15 < byteAt h.frame.payload 0) :
    cohortDissolveBody h s = .refuse s .badValue := by
  simp [cohortDissolveBody, idOf_eq_none.mpr hb]

variable {c : CohortId} (hc : byteAt h.frame.payload 0 = c.val)
include hc

theorem cohortDissolveBody_unknownCohort (hn : s.cohort c = none) :
    cohortDissolveBody h s = .refuse s .unknownCohort := by
  simp [cohortDissolveBody, idOf_eq_some.mpr hc, hn]

variable {x : Cohort} (hx : s.cohort c = some x)
include hx

theorem cohortDissolveBody_busy (hday : s.dayRunning = true) :
    cohortDissolveBody h s = .refuse s .busy := by
  simp [cohortDissolveBody, idOf_eq_some.mpr hc, hx, hday]

theorem cohortDissolveBody_ok (hday : s.dayRunning = false) :
    cohortDissolveBody h s = .done (s.dissolve c x.members) .ok (u8 x.members.length) := by
  simp [cohortDissolveBody, idOf_eq_some.mpr hc, hx, hday]

end

/-- The alerts after COHORT DISSOLVE: those of the cohort are removed (R83, R153). -/
theorem dissolve_alerts (s : State) (c : CohortId) (ms : List Slot) :
    (s.dissolve c ms).alerts = s.alerts.filter fun a => a.subject != .cohort c := by
  obtain ⟨_, h⟩ := s.dissolve_frame c ms
  rw [h]

theorem dissolve_overflow (s : State) (c : CohortId) (ms : List Slot) :
    (s.dissolve c ms).overflow = (s.overflow && !(s.dissolve c ms).alerts.isEmpty) := by
  obtain ⟨_, h⟩ := s.dissolve_frame c ms
  rw [h]

/-! ### READ COHORT (R84, R172) -/

section
variable {h : Held} {s : State}

theorem readCohortBody_badValue (hb : 15 < byteAt h.frame.payload 0) :
    readCohortBody h s = .refuse s .badValue := by
  simp [readCohortBody, idOf_eq_none.mpr hb]

variable {c : CohortId} (hc : byteAt h.frame.payload 0 = c.val)
include hc

theorem readCohortBody_free (hn : s.cohort c = none) :
    readCohortBody h s = .done s .ok (freeCohortPayload c) := by
  simp [readCohortBody, idOf_eq_some.mpr hc, hn]

theorem readCohortBody_formed {x : Cohort} {set : Settings} (hx : s.cohort c = some x)
    (ha : (s.family x.family).active = some set) :
    readCohortBody h s = .done s .ok (cohortPayload c x set) := by
  simp [readCohortBody, idOf_eq_some.mpr hc, hx, ha]

end

/-- After id and state a FREE cohort's payload has 9 further bytes. -/
theorem freeCohortPayload_eq (c : CohortId) :
    ∃ absent, absent.length = 9 ∧ freeCohortPayload c = u8 c.val ++ [0] ++ absent :=
  ⟨_, by rfl, rfl⟩

theorem CohortMode.bytes_eq (m : CohortMode) : m.bytes = match m with
    | .median q => [0] ++ u8 q ++ [0xFF]
    | .anchor none => [1, 0xFF, 0xFF]
    | .anchor (some a) => [1, 0xFF] ++ u8 a.val := by
  cases m with
  | median q => rfl
  | anchor a => cases a <;> rfl

/-- Absent centers are three bytes of 0 for each parameter, present ones a 1 and the value. -/
theorem centerBytes_eq (n : Nat) (centers : Option (List Int)) : centerBytes n centers =
    match centers with
    | none => u8 n ++ (List.replicate n [0, 0, 0]).flatten
    | some cs => u8 cs.length ++ cs.flatMap fun v => [1] ++ i16 v := by
  cases centers with
  | none => exact congrArg (u8 n ++ ·.flatten) List.map_replicate
  | some cs => rfl

/-- Settles O36: COHORT DISSOLVE's checks and effect, then the bytes of READ COHORT. -/
theorem cohortDissolveAndReadOutcome : Obligations.CohortDissolveAndReadOutcome := by
  refine ⟨fun s h r => ⟨fun hb => runCommand_refuse r (cohortDissolveBody_badValue hb),
    fun c hc => ⟨fun hn => runCommand_refuse r (cohortDissolveBody_unknownCohort hc hn),
      fun x hx => ⟨fun hday => runCommand_refuse r (cohortDissolveBody_busy hc hx hday),
        fun hday => ?_⟩⟩⟩,
    fun s h r => ⟨fun hb => runCommand_refuse r (readCohortBody_badValue hb),
      fun c hc => ⟨fun hn => ?_, fun x set hx ha => ?_⟩⟩⟩
  · refine ⟨s.dissolve c x.members, runCommand_done r (cohortDissolveBody_ok hc hx hday),
      fun d => ?_, dissolve_lane s c x.members, dissolve_alerts .., dissolve_overflow .., ?_⟩
    · rw [dissolve_cohort]
      exact if_congr eq_comm rfl rfl
    · obtain ⟨lanes, hframe⟩ := s.dissolve_frame c x.members
      exact ⟨lanes, _, _, _, hframe⟩
  · obtain ⟨absent, hlen, heq⟩ := freeCohortPayload_eq c
    have run := runCommand_done r (readCohortBody_free hc hn)
    rw [heq] at run
    exact ⟨absent, hlen, run⟩
  · have run := runCommand_done r (readCohortBody_formed hc hx ha)
    rw [cohortPayload, CohortMode.bytes_eq, centerBytes_eq] at run
    exact run

end Sys2Proof.Machine

namespace Sys2Proof.Machine

/-! ### The median (R88) -/

theorem sortAscending_length (vs : List Int) : (sortAscending vs).length = vs.length :=
  (sortAscending_perm vs).length_eq

/-- Ascending values have one order only. -/
theorem eq_sortAscending {sorted vs : List Int} (hperm : sorted.Perm vs)
    (hsorted : sorted.Pairwise (· ≤ ·)) : sorted = sortAscending vs :=
  (hperm.trans (sortAscending_perm vs).symm).eq_of_pairwise' hsorted (sortAscending_sorted vs)

theorem mem_of_sortAscending_getElem? {vs : List Int} {n : Nat} {v : Int}
    (h : (sortAscending vs)[n]? = some v) : v ∈ vs :=
  (sortAscending_perm vs).mem_iff.mp (List.mem_of_getElem? h)

theorem sortAscending_getElem?_le {vs : List Int} {m n : Nat} {x y : Int} (hmn : m ≤ n)
    (hx : (sortAscending vs)[m]? = some x) (hy : (sortAscending vs)[n]? = some y) : x ≤ y := by
  obtain ⟨hm, rfl⟩ := List.getElem?_eq_some_iff.mp hx
  obtain ⟨hn, rfl⟩ := List.getElem?_eq_some_iff.mp hy
  exact (sortAscending_sorted vs).sortedLE.getElem_le_getElem_of_le hmn

theorem median_of_odd {vs : List Int} (h : vs.length % 2 = 1) :
    median vs = (sortAscending vs)[vs.length / 2]? := by
  simp only [median, sortAscending_length, h, if_true]

theorem median_of_even {vs : List Int} {c : Int} (h : vs.length % 2 = 0)
    (hc : median vs = some c) : ∃ x y, (sortAscending vs)[vs.length / 2 - 1]? = some x ∧
      (sortAscending vs)[vs.length / 2]? = some y ∧ c = (x + y).tdiv 2 := by
  have heven : ¬ vs.length % 2 = 1 := by omega
  simp only [median, sortAscending_length, heven, if_false] at hc
  split at hc
  · rename_i x y hx hy
    exact ⟨x, y, hx, hy, (Option.some.inj hc).symm⟩
  · cases hc

theorem tdiv_two_of_neg {z : Int} (h : z < 0) : z.tdiv 2 = -(-z / 2) := by
  rw [← Int.tdiv_eq_ediv_of_nonneg (by omega), Int.neg_tdiv, neg_neg]

/-- Half of a sum lies between the two values. -/
theorem half_sum_between {x y : Int} (h : x ≤ y) : x ≤ (x + y).tdiv 2 ∧ (x + y).tdiv 2 ≤ y := by
  rcases lt_or_ge (x + y) 0 with hneg | hpos
  · rw [tdiv_two_of_neg hneg]; omega
  · rw [Int.tdiv_eq_ediv_of_nonneg hpos]; omega

section
variable {vs : List Int} {c : Int} (hc : median vs = some c)
include hc

theorem median_mem_of_odd (h : vs.length % 2 = 1) : c ∈ vs :=
  mem_of_sortAscending_getElem? (median_of_odd h ▸ hc)

/-- The median lies between two of the values (R94). -/
theorem median_between : ∃ lo ∈ vs, ∃ hi ∈ vs, lo ≤ c ∧ c ≤ hi := by
  rcases Nat.mod_two_eq_zero_or_one vs.length with heven | hodd
  · obtain ⟨x, y, hx, hy, rfl⟩ := median_of_even heven hc
    exact ⟨x, mem_of_sortAscending_getElem? hx, y, mem_of_sortAscending_getElem? hy,
      half_sum_between (sortAscending_getElem?_le (Nat.sub_le ..) hx hy)⟩
  · have hmem := median_mem_of_odd hc hodd
    exact ⟨c, hmem, c, hmem, le_refl c, le_refl c⟩

end

/-- The center of one parameter is the median of the contributions to it. -/
theorem centerOf_eq_some {ds : List (List Int)} {i : Nat} {c : Int} (h : centerOf ds i = some c) :
    ∃ vs, (ds.map fun d => d[i]?) = vs.map some ∧ median vs = some c := by
  unfold centerOf at h
  split at h
  · cases h
  · rename_i vs hvs
    exact ⟨vs, allSome_eq_some.mp hvs, h⟩

theorem centerOf_of_centersOf {n i : Nat} {ds : List (List Int)} {cs : List Int} {c : Int}
    (h : centersOf n ds = some cs) (hi : cs[i]? = some c) : centerOf ds i = some c := by
  have hlt : i < n := centersOf_length h ▸ (List.getElem?_eq_some_iff.mp hi).1
  have heq := congrArg (fun z : List (Option Int) => z[i]?) (allSome_eq_some.mp h)
  simpa [hlt, hi] using heq

/-- Settles O37: the median by the parity of the count (`median_of_odd`, `median_of_even`), each center
as the median of one parameter's contributions. -/
theorem centerLiesAmongContributors : Obligations.CenterLiesAmongContributors := by
  refine ⟨fun vs c hc => ?_, fun vs => median_isSome, fun n ds => centersOf_isSome,
    fun n ds cs hcs => ⟨centersOf_length hcs, fun i c hi => ?_⟩⟩
  · obtain ⟨lo, hlo, hi, hhi, hle, hge⟩ := median_between hc
    refine ⟨⟨lo, hlo, hle⟩, ⟨hi, hhi, hge⟩, median_mem_of_odd hc,
      fun sorted hperm hsorted => ⟨fun hodd => ?_, fun heven => ?_⟩, ?_, median_inRange hc⟩
    · rw [eq_sortAscending hperm hsorted, ← median_of_odd hodd, hc]
    · obtain ⟨x, y, hx, hy, rfl⟩ := median_of_even heven hc
      obtain ⟨hxc, hcy⟩ := half_sum_between (sortAscending_getElem?_le (Nat.sub_le ..) hx hy)
      rw [eq_sortAscending hperm hsorted]
      exact ⟨x, y, hx, hy, hxc, hcy, Int.tdiv_eq_ediv_of_nonneg, tdiv_two_of_neg⟩
    · rintro v rfl
      exact List.mem_singleton.mp (median_mem_of_odd hc rfl)
  · obtain ⟨vs, hvs, hmedian⟩ := centerOf_eq_some (centerOf_of_centersOf hcs hi)
    refine ⟨vs, by simpa using (congrArg List.length hvs).symm, fun k d hd => ?_, hmedian⟩
    have heq := congrArg (fun z : List (Option Int) => z[k]?) hvs
    cases hk : vs[k]? with
    | none => simp [hd, hk] at heq
    | some v => simpa [hd, hk] using heq

end Sys2Proof.Machine

namespace Sys2Proof.Machine

/-! ### The contributors of a cohort (R87) -/

/-- An entry contributes when DEVIATE recorded the cohort with it and found it eligible (R85, R87). -/
theorem contribution_eq_some {c : CohortId} {o : Option StripEntry} {ds : List Int} :
    contribution c o = some ds ↔ ∃ e r, o = some e ∧ e.result = some r ∧ r.cohort = some c ∧
      r.eligible = true ∧ ds = r.devs := by
  constructor
  · intro h
    unfold contribution at h
    split at h
    · cases h
    · rename_i e
      split at h
      · cases h
      · rename_i r hr
        split at h
        · rename_i hin
          exact ⟨e, r, rfl, hr, hin.1, hin.2, (Option.some.inj h).symm⟩
        · cases h
  · rintro ⟨e, r, rfl, hr, hcohort, heligible, rfl⟩
    simp [contribution, hr, hcohort, heligible]

/-- In MEDIAN mode every such entry contributes, in ANCHOR mode the anchor's alone (R87). -/
theorem mem_contributors_iff {c : CohortId} {x : Cohort} {sh : Sheet} {ds : List Int} :
    ds ∈ contributors c x sh ↔ ∃ i, contribution c (sh.entries.get i) = some ds ∧
      match x.mode with
      | .median _ => True
      | .anchor a => a = some i := by
  unfold contributors
  cases x.mode with
  | median q =>
    simp only [List.mem_filterMap, Table.mem_cells, and_true]
    constructor
    · rintro ⟨_, ⟨i, rfl⟩, h⟩
      exact ⟨i, h⟩
    · rintro ⟨i, h⟩
      exact ⟨_, ⟨i, rfl⟩, h⟩
  | anchor a => cases a <;> simp

theorem enough_iff (x : Cohort) (n : Nat) : enough x n = true ↔
    match x.mode with
    | .median q => q ≤ n
    | .anchor _ => n = 1 := by
  unfold enough
  cases x.mode <;> simp

/-! ### The record after CENTER (R90, R92) -/

theorem Cohort.centeredBy_iff {x : Cohort} {d : Nat} :
    x.centeredBy d = true ↔ ∃ n, x.lastDay = some n ∧ d ≤ n := by
  simp [Cohort.centeredBy, Option.any_eq_true]

theorem Cohort.noCenter_of_centered {x : Cohort} {d : Nat} (h : x.centeredBy d = true) :
    x.noCenter d = { x with centers := none, count := 0 } := if_pos h

theorem Cohort.noCenter_of_not_centered {x : Cohort} {d : Nat} (h : ¬ x.centeredBy d = true) :
    x.noCenter d = x := if_neg h

/-- The parameters whose center lies beyond W, one center for each entry of the plan (R92). -/
theorem commonParams_eq {plan : List PlanEntry} {cs : List Int} (h : cs.length = plan.length) :
    commonParams plan cs = (List.range plan.length).filter fun i =>
      match plan[i]?, cs[i]? with
      | some e, some v => decide (e.warn < v.natAbs)
      | _, _ => false := by
  unfold commonParams indicesWhere
  rw [List.length_zipWith, h, Nat.min_self]
  refine List.filter_congr fun i hi => ?_
  have hp : i < plan.length := List.mem_range.mp hi
  have hc : i < cs.length := h ▸ hp
  simp [List.getD_eq_getElem?_getD, List.getElem?_zipWith, List.getElem?_eq_getElem hp,
    List.getElem?_eq_getElem hc]

/-! ### CENTER_STEP (R87 to R92, R104) -/

theorem Stage.next_center (c : CohortId) : (Stage.center c).next =
    if h : c.val + 1 < 16 then .center ⟨c.val + 1, h⟩ else .apply 0 := by
  by_cases h : c.val + 1 < 16 <;> simp [Stage.next, succFin, h]

theorem execCenterStep_of_dayAt {s : State} {d : Nat} {c : CohortId} {k : SheetNo}
    (hd : s.DayAt d (.center c)) (hk : s.evaluatingSheet d = some k) :
    exec .centerStep s = stepTo (Stage.center c).next (centerCohort s d k c) := by
  obtain ⟨j, hstep, hkind⟩ := State.stepping_of_dayAt hd
  show execCenterStep s = _
  simp only [execCenterStep, hstep, hkind, JobKind.day?, hk]

section
variable {s : State} {d : Nat} {k : SheetNo} {c : CohortId}

theorem centerCohort_free (hn : s.cohort c = none) : centerCohort s d k c = .ok s := by
  simp only [centerCohort, hn]

variable {x : Cohort} {set : Settings} (hx : s.cohort c = some x)
  (ha : (s.family x.family).active = some set)
include hx ha

theorem centerCohort_few (hfew : ¬ enough x (contributors c x (s.sheet k)).length = true) :
    centerCohort s d k c = .ok (s.setCohort c (some (x.noCenter d))) := by
  simp only [centerCohort, hx, ha, hfew, Bool.false_eq_true, if_false]

theorem centerCohort_enough {cs : List Int}
    (henough : enough x (contributors c x (s.sheet k)).length = true)
    (hcs : centersOf set.plan.length (contributors c x (s.sheet k)) = some cs) :
    centerCohort s d k c =
      .ok (s.storeCenter c x set.plan d (contributors c x (s.sheet k)).length cs) := by
  simp only [centerCohort, hx, ha, henough, hcs, if_true]

end

/-- Settles O38: a FREE cohort, too few contributors by whether the day was centered, enough of them. -/
theorem centerStepEffect : Obligations.CenterStepEffect := by
  intro s d c k hd hk next
  have hstep := execCenterStep_of_dayAt hd hk
  rw [Stage.next_center] at hstep
  refine ⟨fun hn => by rw [hstep, centerCohort_free hn]; rfl, fun x set hx ha => ?_⟩
  intro gives before
  have hgives : ∀ i v, contribution c ((s.sheet k).entries.get i) = some v ↔ gives i v :=
    fun i v => contribution_eq_some
  have hbefore : x.centeredBy d = true ↔ before := Cohort.centeredBy_iff
  refine ⟨_, rfl, fun v => ?_, fun hfew hnot => ?_, fun hfew hb => ?_, fun cs henough hcs => ?_⟩
  · exact mem_contributors_iff.trans (exists_congr fun i => and_congr_left' (hgives i v))
  · rw [hstep, centerCohort_few hx ha (mt (enough_iff ..).mp hfew),
      Cohort.noCenter_of_not_centered (mt hbefore.mp hnot)]
    rfl
  · rw [hstep, centerCohort_few hx ha (mt (enough_iff ..).mp hfew),
      Cohort.noCenter_of_centered (hbefore.mpr hb)]
    rfl
  · intro s' common
    have hcommon : commonParams set.plan cs = common := commonParams_eq (centersOf_length hcs)
    rw [hstep, centerCohort_enough hx ha ((enough_iff ..).mpr henough) hcs, State.storeCenter]
    simp only [hcommon, hbefore]
    rfl

end Sys2Proof.Machine

namespace Sys2Proof.Machine

/-! ### The step and the queue of waiting commands -/

/-- Settles O1: each half is one branch of `step`. -/
theorem stepTakesFrontCommand : Obligations.StepTakesFrontCommand := by
  refine ⟨fun c rest s => rfl, fun s hs => ?_⟩
  unfold Machine.step
  rw [hs]

end Sys2Proof.Machine

namespace Sys2Proof.Machine

/-! ### The links and the work queue through every step -/

/-- Settles O53: every change of the tables and every move of the links keeps the law (`LinkLaw.change`,
`LinkMove.law`, packaged in `LinkLaw.step`). -/
theorem linkLawKept : Obligations.LinkLawKept := fun _ _ => LinkLaw.step

/-- Settles O54: every change of the tables keeps the law (`QueueLaw.change`) and no move of the links
touches the queue, packaged in `QueueLaw.step`. -/
theorem queueLawKept : Obligations.QueueLawKept := fun _ _ => QueueLaw.step

end Sys2Proof.Machine

namespace Sys2Proof.Machine

/-! ### The queue of waiting commands under a command's effect (R99) -/

@[simp] theorem State.arbitrate_pending (s : State) : s.arbitrate.pending = s.pending := by
  obtain ⟨_, _, _, h⟩ := s.arbitrate_frame; rw [h]

@[simp] theorem answer_pending (h : Held) (st : Status) (pl : List Byte) (s : State) :
    (answer h st pl s).pending = s.pending := by
  obtain ⟨_, _, _, e⟩ := answer_frame h st pl s; rw [e]

@[simp] theorem State.arrive_pending (s : State) (p : Port) (x : Arrival) :
    (s.arrive p x).pending = s.pending := by
  obtain ⟨_, _, _, h⟩ := s.arrive_frame p x; rw [h]

@[simp] theorem State.resetUnit_pending (s : State) : s.resetUnit.pending = s.pending := by
  obtain ⟨_, _, h⟩ := s.resetUnit_frame; rw [h]

@[simp] theorem State.setStage_pending (s : State) (st : Stage) :
    (s.setStage st).pending = s.pending := by
  obtain ⟨_, h, -⟩ := s.setStage_frame st; rw [h]

theorem TableChange.pending {s u : State} (h : TableChange s u) : u.pending = s.pending := by
  cases h with
  | retire i => rw [State.retire_eq]
  | formCohort r => obtain ⟨_, h⟩ := s.formCohort_frame r; rw [h]
  | dissolve c x => obtain ⟨_, h⟩ := s.dissolve_frame c x.members; rw [h]
  | startDay j rest d => obtain ⟨_, _, _, _, h⟩ := s.startDayJob_frame d; rw [h]
  | raise r => obtain ⟨_, _, _, _, h⟩ := s.raise_frame r; rw [h]
  | advance | startRebuild => simp
  | resetUnit => exact s.resetUnit_pending
  | _ => rfl

theorem Effect.pending {s u : State} (h : Effect s u) : u.pending = s.pending := by
  induction h with
  | refl => rfl
  | tail _ h ih => exact h.pending.trans ih

theorem runCommand_pending {c : Command} {body : Held → State → Reply} {s t : State}
    (hb : ∀ h s, (body h s).EffectOf s) (e : runCommand c body s = .next t) :
    t.pending = s.pending := by
  rcases runCommand_cases e with rfl | ⟨h, -, ⟨st, -, rfl⟩ | ⟨-, u, st, pl, hu, rfl⟩⟩
  · rfl
  · exact answer_pending ..
  · have heff : Effect s u := by
      have := hb h s
      rwa [hu] at this
    exact (answer_pending ..).trans heff.pending

/-! #### The events of the links and of RESET -/

theorem execWarmReset_pending {s t : State} (e : execWarmReset s = .next t) :
    t.pending = s.pending := by
  unfold execWarmReset at e
  split at e <;> cases e
  · rfl
  · exact s.resetUnit_pending

theorem execResetRelease_pending {s t : State} (e : execResetRelease s = .next t) :
    t.pending = s.pending := by
  unfold execResetRelease at e
  split at e <;> cases e
  · exact State.arbitrate_pending _
  · rfl

theorem execSelectAssert_pending {p : Port} {s t : State} (e : execSelectAssert p s = .next t) :
    t.pending = s.pending := by
  unfold execSelectAssert at e
  split at e <;> cases e <;> rfl

theorem execResponseSent_pending {p : Port} {s t : State} (e : execResponseSent p s = .next t) :
    t.pending = s.pending := by
  unfold execResponseSent at e
  split at e <;> cases e
  · exact State.arbitrate_pending _
  · rfl

theorem execUnknownCommand_pending {s t : State} (e : execUnknownCommand s = .next t) :
    t.pending = s.pending := by
  unfold execUnknownCommand at e
  split at e
  · cases e; rfl
  · split at e <;> cases e
    · rfl
    · exact answer_pending ..

theorem execPulseStart_pending {p : Port} {s t : State} (e : execPulseStart p s = .next t) :
    t.pending = s.pending := by
  unfold execPulseStart at e
  split at e <;> cases e <;> rfl

theorem execPulseEnd_pending {p : Port} {s t : State} (e : execPulseEnd p s = .next t) :
    t.pending = s.pending := by
  unfold execPulseEnd at e
  split at e <;> cases e <;> rfl

/-- Settles O2: the executor's commands and the unit's steps are chains of table changes, none of which
touches the queue of waiting commands (`Effect.pending`); the events of the links and of RESET one by
one. -/
theorem execKeepsWaitingCommands : Obligations.ExecKeepsWaitingCommands := by
  intro c s t e
  cases c with
  | powerOn => cases e; rfl
  | warmReset => exact execWarmReset_pending e
  | resetRelease => exact execResetRelease_pending e
  | selectAssert p => exact execSelectAssert_pending e
  | responseSent p => exact execResponseSent_pending e
  | frameArrival p bytes tail => cases e; exact State.arrive_pending ..
  | linkClear p tag payload => cases e; exact State.arrive_pending ..
  | unknownCommand => exact execUnknownCommand_pending e
  | pulseStart p => exact execPulseStart_pending e
  | pulseEnd p => exact execPulseEnd_pending e
  | identify => exact runCommand_pending identifyBody_effect e
  | status => exact runCommand_pending statusBody_effect e
  | configure => exact runCommand_pending configureBody_effect e
  | attentionSet => exact runCommand_pending attentionSetBody_effect e
  | jobStatus => exact runCommand_pending jobStatusBody_effect e
  | familySet => exact runCommand_pending familySetBody_effect e
  | familyGet => exact runCommand_pending familyGetBody_effect e
  | lotLoad => exact runCommand_pending lotLoadBody_effect e
  | lotDrop => exact runCommand_pending lotDropBody_effect e
  | lotGet => exact runCommand_pending lotGetBody_effect e
  | laneEnrol => exact runCommand_pending laneEnrolBody_effect e
  | laneRetire => exact runCommand_pending laneRetireBody_effect e
  | lotAssign => exact runCommand_pending lotAssignBody_effect e
  | laneSuspend => exact runCommand_pending laneSuspendBody_effect e
  | laneResume => exact runCommand_pending laneResumeBody_effect e
  | readLane => exact runCommand_pending readLaneBody_effect e
  | cohortSet => exact runCommand_pending cohortSetBody_effect e
  | cohortDissolve => exact runCommand_pending cohortDissolveBody_effect e
  | readCohort => exact runCommand_pending readCohortBody_effect e
  | stripRead => exact runCommand_pending stripReadBody_effect e
  | referenceRead => exact runCommand_pending referenceReadBody_effect e
  | readSheetEntry => exact runCommand_pending readSheetEntryBody_effect e
  | closeDay => exact runCommand_pending closeDayBody_effect e
  | rebuild => exact runCommand_pending rebuildBody_effect e
  | cancelJob => exact runCommand_pending cancelJobBody_effect e
  | readChart => exact runCommand_pending readChartBody_effect e
  | excludeDay => exact runCommand_pending excludeDayBody_effect e
  | listAlerts => exact runCommand_pending listAlertsBody_effect e
  | ackAlert => exact runCommand_pending ackAlertBody_effect e
  | dayJobStart => exact (dayJobStart_effect e).pending
  | deviateStep => exact (deviateStep_effect e).pending
  | centerStep => exact (centerStep_effect e).pending
  | applyStep => exact (applyStep_effect e).pending
  | dayJobEnd => exact (dayJobEnd_effect e).pending
  | rebuildStart => exact (rebuildStart_effect e).pending
  | replayStep => exact (replayStep_effect e).pending
  | rebuildEnd => exact (rebuildEnd_effect e).pending

/-! ### A list of commands from power-on -/

theorem run_succ_of_step {M : Host.Core} {k : Nat} {s t : M.State} (h : M.step s = .next t) :
    M.run (k + 1) s = M.run k t := by
  rw [Host.Core.run, h]

/-- From a lawful state the waiting commands are taken one after another, and each is answered. -/
theorem Lawful.run_pending {s : State} (hs : Lawful s) :
    ∃ t, core.run s.pending.length s = .next t ∧ t.pending = [] := by
  induction hp : s.pending generalizing s with
  | nil => exact ⟨s, rfl, hp⟩
  | cons c rest ih =>
    obtain ⟨t, ht⟩ := hs.step_next
    have hexec : exec c { s with pending := rest } = .next t := by
      rw [← stepTakesFrontCommand.1, ← hp]; exact ht
    obtain ⟨u, hu, hdone⟩ := ih (hs.step ht) (execKeepsWaitingCommands _ _ _ hexec)
    exact ⟨u, (run_succ_of_step (M := core) ht).trans hu, hdone⟩

/-- Settles O59: the state after power-on is lawful with any list of commands waiting. -/
theorem noCommandSequenceFaults : Obligations.NoCommandSequenceFaults :=
  fun cs => (Lawful.powerOn cs 0).run_pending

end Sys2Proof.Machine

namespace Sys2Proof.Machine

/-! ### POWER_ON (R117) -/

/-- Settles O3: the state after POWER_ON is `State.reset` with the model's own two fields kept, read
back record by record. -/
theorem powerOnEmptiesEverything : Obligations.PowerOnEmptiesEverything := by
  intro s
  refine ⟨_, rfl, rfl, rfl, rfl, fun p => ?_, rfl, rfl, State.reset_family, rfl, rfl,
    State.reset_lane, State.reset_sheet, State.reset_cohort, rfl, rfl, rfl, rfl, rfl, rfl⟩
  cases p <;> exact ⟨rfl, rfl, rfl, rfl, rfl, rfl, rfl, rfl, rfl, rfl⟩

/-! ### While RESET is asserted (R115, R158, R164) -/

section
variable {s : State} (hr : s.resetAsserted = true)
include hr

/-- The unit starts no job and takes no step (R115). -/
theorem exec_unit_of_reset : ∀ c ∈ [Instr.dayJobStart, .deviateStep, .centerStep, .applyStep,
    .dayJobEnd, .rebuildStart, .replayStep, .rebuildEnd], exec c s = .next s := by
  obtain ⟨hstep, hstart⟩ := State.unit_waits hr
  simp only [List.forall_mem_cons, List.not_mem_nil, false_implies, implies_true, and_true]
  refine ⟨?_, ?_, ?_, ?_, ?_, ?_, ?_, ?_⟩
  · show execDayJobStart s = _; simp only [execDayJobStart, hstart]
  · show execDeviateStep s = _; simp only [execDeviateStep, hstep]
  · show execCenterStep s = _; simp only [execCenterStep, hstep]
  · show execApplyStep s = _; simp only [execApplyStep, hstep]
  · show execDayJobEnd s = _; simp only [execDayJobEnd, hstep]
  · show execRebuildStart s = _; simp only [execRebuildStart, hstart]
  · show execReplayStep s = _; simp only [execReplayStep, hstep]
  · show execRebuildEnd s = _; simp only [execRebuildEnd, hstep]

/-- A select period that ends brings no frame (R164). -/
theorem arrive_of_reset {p : Port} (x : Arrival) (hp : (s.port p).period ≠ .idle) :
    s.arrive p x = s.setPeriod p .idle := by
  unfold State.arrive
  split
  · contradiction
  · rfl
  · exact if_pos hr

theorem atn_of_reset (p : Port) : s.atn p = false := by simp [State.atn, hr]

theorem execResetRelease_of_no_frame (hc : ∀ p, (s.port p).commands = []) :
    exec .resetRelease s = .next { s with resetAsserted := false } := by
  have hnone : ∀ p, ({ s with resetAsserted := false } : State).eligible p = false := fun p => by
    show (!(s.port p).commands.isEmpty && _) = false
    rw [hc p]; rfl
  show execResetRelease s = _
  rw [execResetRelease, if_pos hr, State.arbitrate_of_none_eligible hnone]

end

/-- Settles O5: the unit's eight events, then the events of a port, then the release. -/
theorem resetHoldsTheBlock : Obligations.ResetHoldsTheBlock := by
  intro s hr
  refine ⟨exec_unit_of_reset hr, if_pos hr, fun p hp => ?_,
    fun p bytes tail hp => congrArg _ (arrive_of_reset hr _ hp),
    fun p tag payload hp => congrArg _ (arrive_of_reset hr _ hp), atn_of_reset hr,
    execResetRelease_of_no_frame hr⟩
  show execSelectAssert p s = _
  simp only [execSelectAssert, hp, hr, if_true]
  rfl

/-! ### The DAY jobs that a warm reset recreates (R97, R115) -/

/-- The number `k` places after `n` in 1..65535, after which comes 1 (R97). -/
def wordAfter (n k : Nat) : Nat := (n - 1 + k) % 65535 + 1

theorem wordAfter_zero {n : Nat} (h1 : 1 ≤ n) (h2 : n ≤ 65535) : wordAfter n 0 = n := by
  unfold wordAfter; omega

theorem wordAfter_range (n k : Nat) : 1 ≤ wordAfter n k ∧ wordAfter n k ≤ 65535 := by
  unfold wordAfter; omega

/-- The ids given in a row do not meet the next one before 65535 of them are given. -/
theorem wordAfter_not_mem {n k : Nat} (hk : k < 65535) :
    wordAfter n k ∉ (List.range k).map (wordAfter n) := by
  simp only [List.mem_map, List.mem_range, not_exists, not_and]
  intro m hm
  unfold wordAfter; omega

theorem nextWord_wordAfter (n k : Nat) : nextWord (wordAfter n k) = wordAfter n (k + 1) := by
  unfold nextWord wordAfter Config.maxWord
  split <;> omega

/-- A number that nothing holds is given as it is. -/
theorem skipHeld_of_not_mem {held : List Nat} {n : Nat} (fuel : Nat) (h : n ∉ held) :
    skipHeld held fuel n = n := by
  cases fuel with
  | zero => rfl
  | succ fuel => exact if_neg h

/-- While only ids given in a row are held, the counter goes on to the next number. -/
theorem advanceId_wordAfter {n k : Nat} (hk : k + 1 < 65535) :
    advanceId ((List.range (k + 1)).map (wordAfter n)) (wordAfter n k) = wordAfter n (k + 1) := by
  unfold advanceId
  rw [nextWord_wordAfter]
  exact skipHeld_of_not_mem _ (wordAfter_not_mem hk)

/-- The ids of DAY jobs that join one after another a queue of ids given in a row (R97). -/
theorem joinDays_ids {n : Nat} (ds : List Nat) {s : State} {k : Nat} (hf : s.finished = [])
    (hq : s.queue.map (·.id) = (List.range k).map (wordAfter n)) (hn : s.nextJobId = wordAfter n k)
    (hk : k + ds.length < 65535) :
    (ds.foldl (fun t d => t.joinJob (.day d)) s).queue.map (·.id) =
        (List.range (k + ds.length)).map (wordAfter n) ∧
      (ds.foldl (fun t d => t.joinJob (.day d)) s).nextJobId = wordAfter n (k + ds.length) := by
  induction ds generalizing s k with
  | nil => exact ⟨hq, hn⟩
  | cons d ds ih =>
    rw [List.length_cons] at hk ⊢
    have hids : (s.joinJob (.day d)).queue.map (·.id) = (List.range (k + 1)).map (wordAfter n) := by
      rw [State.joinJob_eq, List.map_append, hq, List.range_succ, List.map_append, hn]
      rfl
    have hnext : (s.joinJob (.day d)).nextJobId = wordAfter n (k + 1) := by
      show advanceId ((s.joinJob (.day d)).queue.map (·.id) ++ s.finished.map (·.id)) s.nextJobId = _
      rw [hids, hf, hn, List.map_nil, List.append_nil]
      exact advanceId_wordAfter (by omega)
    rw [show k + (ds.length + 1) = k + 1 + ds.length by omega]
    exact ih (s := s.joinJob (.day d)) hf hids hnext (by omega)

theorem joinDays_queue (ds : List Nat) (s : State) :
    (ds.foldl (fun t d => t.joinJob (.day d)) s).queue.map (fun j => (j.kind, j.state)) =
      s.queue.map (fun j => (j.kind, j.state)) ++ ds.map fun d => (.day d, .queued) := by
  induction ds generalizing s with
  | nil => simp
  | cons d ds ih =>
    rw [List.foldl_cons, ih, State.joinJob_eq]
    simp

/-! ### WARM_RESET (R43, R115) -/

/-- The state that the DAY jobs of a warm reset join: nothing queued or finished, every EVALUATING sheet
CLOSING (R115, steps 1 to 3). -/
def State.unitStopped (s : State) : State :=
  { s.stopRunningRebuild with queue := [], finished := [], sheets := s.sheets.map Sheet.warmReset }

theorem State.unitStopped_sheet (s : State) (k : SheetNo) :
    s.unitStopped.sheet k = (s.sheet k).warmReset := Table.get_map ..

theorem State.unitStopped_nextJobId (s : State) : s.unitStopped.nextJobId = s.nextJobId := by
  obtain ⟨_, h⟩ := s.stopRunningRebuild_frame
  unfold State.unitStopped; rw [h]

theorem State.resetUnit_eq (s : State) : s.resetUnit =
    s.unitStopped.closingDays.foldl (fun t d => t.joinJob (.day d)) s.unitStopped := by
  obtain ⟨_, h⟩ := s.stopRunningRebuild_frame
  unfold State.resetUnit State.unitStopped
  rw [h]

/-- The days of the jobs are those of the sheets that were CLOSING or EVALUATING. -/
theorem unitStopped_closingDays_perm (s : State) : s.unitStopped.closingDays.Perm
    (s.sheets.cells.filterMap fun sh => if sh.closed then sh.day else none) := by
  refine (sortAscending_perm _).trans (.of_eq ?_)
  show (s.sheets.cells.map Sheet.warmReset).filterMap _ = _
  rw [List.filterMap_map]
  refine List.filterMap_congr fun sh _ => ?_
  have hclosed : sh.warmReset.state = .closing ↔ sh.closed = true := by
    rw [Sheet.warmReset_state, Sheet.closed_iff]
    cases sh.state <;> simp
  simp only [Function.comp_apply, hclosed, Sheet.warmReset_day]

theorem RingLaw.unitStopped_closingDays_increase {s : State} (h : RingLaw s) :
    s.unitStopped.closingDays.Pairwise (· < ·) := by
  refine closingDays_increase fun k m hk hkm => ?_
  simp only [State.unitStopped_sheet, Sheet.warmReset_day] at hk hkm
  refine h.daysDistinct k m (fun hfree => ?_) hkm
  rw [Sheet.warmReset_of_not_evaluating (by simp [hfree]), hfree] at hk
  cases hk

theorem execWarmReset_of_released {s : State} (hr : s.resetAsserted = false) :
    exec .warmReset s = .next s.resetUnit.resetLinks := by
  show execWarmReset s = _
  rw [execWarmReset, hr]; rfl

theorem resetLinks_port (s : State) (p : Port) :
    s.resetLinks.port p = (s.port p).warmReset := PerPort.get_map ..

/-- Settles O4: the days from the sheets, the jobs and ids from those that join one after another, and
the rest record by record. -/
theorem warmResetEffect : Obligations.WarmResetEffect := by
  intro s hr
  have hids := fun h1 h2 => joinDays_ids s.unitStopped.closingDays (s := s.unitStopped) (k := 0) rfl rfl
    (s.unitStopped_nextJobId.trans (wordAfter_zero (n := s.nextJobId) h1 h2).symm)
    (by have := closingDays_length_le s.unitStopped; omega)
  have hqueue := joinDays_queue s.unitStopped.closingDays s.unitStopped
  rw [← State.resetUnit_eq] at hids hqueue
  rw [Nat.zero_add] at hids
  refine ⟨s.resetUnit.resetLinks, s.unitStopped.closingDays, execWarmReset_of_released hr, rfl, rfl,
    ?_, fun p => ?_, ?_, unitStopped_closingDays_perm s, sortAscending_sorted _,
    RingLaw.unitStopped_closingDays_increase, hqueue, hids, fun k => resetUnit_sheet s k,
    fun i => resetUnit_lane s i, ?_⟩
  · show (⟨.a, s.resetUnit.config.allowances⟩ : Arbiter) = _
    rw [State.resetUnit_config]
  · have hport : s.resetUnit.port p = s.port p := by unfold State.port; rw [State.resetUnit_ports]
    rw [resetLinks_port, hport]
    exact ⟨rfl, rfl, rfl, rfl, rfl, rfl, rfl⟩
  · obtain ⟨_, _, h⟩ := s.resetUnit_frame
    rw [h]; rfl
  · exact ⟨s.resetUnit_config, s.resetUnit_families, s.resetUnit_lots, s.resetUnit_directory,
      s.resetUnit_cohorts, s.resetUnit_openDay, s.resetUnit_alerts, s.resetUnit_nextSerial,
      s.resetUnit_overflow⟩

end Sys2Proof.Machine

namespace Sys2Proof.Machine

/-! ### A job named by its id (R97) -/

theorem findJob_of_split {s : State} {id : Nat} {ahead behind : List Job} {j : Job}
    (hq : s.queue = ahead ++ j :: behind) (hj : j.id = id) (hfirst : ∀ x ∈ ahead, x.id ≠ id) :
    s.queue.find? (fun x => x.id == id) = some j :=
  List.find?_eq_some_iff_append.mpr
    ⟨beq_iff_eq.mpr hj, ahead, behind, hq, fun x hx => by simp [hfirst x hx]⟩

theorem findJob_eq_none {s : State} {id : Nat} (hn : ∀ j ∈ s.queue, j.id ≠ id) :
    s.queue.find? (fun x => x.id == id) = none :=
  List.find?_eq_none.mpr fun j hj => by simp [hn j hj]

/-- The place of a job in the queue is the number of jobs ahead of it (R114). -/
theorem findIdx_of_split {s : State} {id : Nat} {ahead behind : List Job} {j : Job}
    (hq : s.queue = ahead ++ j :: behind) (hj : j.id = id) (hfirst : ∀ x ∈ ahead, x.id ≠ id) :
    s.queue.findIdx (fun x => x.id == id) = ahead.length := by
  have hnone : ahead.findIdx (fun x => x.id == id) = ahead.length :=
    List.findIdx_eq_length.mpr fun x hx => by simp [hfirst x hx]
  rw [hq, List.findIdx_append, hnone, if_neg (lt_irrefl _)]
  simp [List.findIdx_cons, hj]

/-! ### JOB STATUS (R114) -/

section
variable {h : Held} {s : State}

theorem jobStatusBody_queue {ahead behind : List Job} {j : Job} (hq : s.queue = ahead ++ j :: behind)
    (hj : j.id = wordAt h.frame.payload 0) (hfirst : ∀ x ∈ ahead, x.id ≠ wordAt h.frame.payload 0) :
    jobStatusBody h s = .done (s.freshAfter j.state) .ok
      (jobHead (wordAt h.frame.payload 0) j.kind ++ jobStateBytes s ahead.length j.state) := by
  simp only [jobStatusBody, findJob_of_split hq hj hfirst, findIdx_of_split hq hj hfirst, hj]

variable (hn : ∀ j ∈ s.queue, j.id ≠ wordAt h.frame.payload 0)
include hn

theorem jobStatusBody_finished {before after : List JobOutcome} {o : JobOutcome}
    (hf : s.finished = before ++ o :: after) (ho : o.id = wordAt h.frame.payload 0)
    (hfirst : ∀ x ∈ before, x.id ≠ wordAt h.frame.payload 0) :
    jobStatusBody h s = .done s .ok
      (jobHead (wordAt h.frame.payload 0) o.kind ++ u8 o.result.code ++ [0xFF, 0xFF]) := by
  have hfind : s.finished.find? (fun x => x.id == wordAt h.frame.payload 0) = some o :=
    List.find?_eq_some_iff_append.mpr
      ⟨beq_iff_eq.mpr ho, before, after, hf, fun x hx => by simp [hfirst x hx]⟩
  simp only [jobStatusBody, findJob_eq_none hn, hfind, ho]

theorem jobStatusBody_notFound (hf : ∀ o ∈ s.finished, o.id ≠ wordAt h.frame.payload 0) :
    jobStatusBody h s = .refuse s .notFound := by
  have hfind : s.finished.find? (fun x => x.id == wordAt h.frame.payload 0) = none :=
    List.find?_eq_none.mpr fun o ho => by simp [hf o ho]
  simp only [jobStatusBody, findJob_eq_none hn, hfind]

end

/-- Settles O20: a job of the queue at each of its states, then an outcome, then neither. -/
theorem jobStatusOutcome : Obligations.JobStatusOutcome := by
  intro s h r id named
  have hnamed : ∀ k, jobHead id k = named k := fun k => by
    cases k with
    | day d => exact List.append_assoc ..
    | rebuild i => exact (List.append_assoc ..).trans (List.append_assoc ..)
  refine ⟨fun ahead j behind hq hj hfirst => ?_, fun hn =>
    ⟨fun before o after hf ho hfirst => ?_, fun hf => ?_⟩⟩
  · have run := runCommand_done r (jobStatusBody_queue hq hj hfirst)
    change exec .jobStatus s = _ at run
    rw [hnamed] at run
    refine ⟨fun hst => ?_, fun i hst => ?_, fun c hst => ?_, fun i hst => ?_, fun hst => ?_,
      fun n hst => ?_⟩
    case refine_5 =>
      refine ⟨Config.endPosition s.fresh, ?_⟩
      rw [run, hst]; rfl
    all_goals
      rw [run, hst]
      simp only [List.append_assoc]
      rfl
  · have run := runCommand_done r (jobStatusBody_finished hn hf ho hfirst)
    change exec .jobStatus s = _ at run
    rw [run, hnamed]
    cases o.result <;> rfl
  · exact runCommand_refuse r (jobStatusBody_notFound hn hf)

/-! ### CANCEL JOB (R101, R112, R132) -/

/-- The job of an id leaves the queue, and the jobs around it close up (R101). -/
theorem State.finishJob_of_split {s : State} {ahead behind : List Job} {j : Job} (r : JobResult)
    (hq : s.queue = ahead ++ j :: behind) (hfirst : ∀ x ∈ ahead, x.id ≠ j.id) :
    s.finishJob j r =
      { s with queue := ahead ++ behind, finished := addOutcome ⟨j.id, j.kind, r⟩ s.finished } := by
  have herase : s.queue.eraseP (fun x => x.id == j.id) = ahead ++ behind := by
    rw [hq, List.eraseP_append_right _ fun x hx => by simp [hfirst x hx]]
    simp
  unfold State.finishJob
  rw [herase]

section
variable {h : Held} {s : State}

theorem cancelJobBody_notFound (hn : ∀ j ∈ s.queue, j.id ≠ wordAt h.frame.payload 0) :
    cancelJobBody h s = .refuse s .notFound := by
  simp only [cancelJobBody, findJob_eq_none hn]

variable {ahead behind : List Job} {j : Job} (hq : s.queue = ahead ++ j :: behind)
  (hj : j.id = wordAt h.frame.payload 0) (hfirst : ∀ x ∈ ahead, x.id ≠ wordAt h.frame.payload 0)
include hq hj hfirst

theorem cancelJobBody_dayJob {d : Nat} (hk : j.kind = .day d) :
    cancelJobBody h s = .refuse s .dayJob := by
  simp only [cancelJobBody, findJob_of_split hq hj hfirst, hk]

variable {i : Slot} (hk : j.kind = .rebuild i)
include hk

theorem cancelJobBody_queued (hs : j.state = .queued) :
    cancelJobBody h s = .done { s with
      queue := ahead ++ behind
      finished := addOutcome ⟨wordAt h.frame.payload 0, .rebuild i, .cancelled⟩ s.finished } .ok
      (u8 0) := by
  simp only [cancelJobBody, findJob_of_split hq hj hfirst, hk, hs]
  rw [State.finishJob_of_split _ hq (hj ▸ hfirst), hj, hk]

theorem cancelJobBody_running {st : Stage} (hs : j.state = .running st) :
    cancelJobBody h s = .done { s.setLane i { s.lane i with chart := .unsettled } with
      queue := ahead ++ behind
      finished := addOutcome ⟨wordAt h.frame.payload 0, .rebuild i, .aborted⟩ s.finished } .ok
      (u8 1) := by
  simp only [cancelJobBody, findJob_of_split hq hj hfirst, hk, hs]
  rw [State.finishJob_of_split _ (by exact hq) (hj ▸ hfirst), hj, hk]
  rfl

end

/-- Settles O40: an outcome added below and at 8, then CANCEL JOB by what the id names. -/
theorem cancelJobOutcome : Obligations.CancelJobOutcome := by
  refine ⟨fun o l => ⟨fun hl => ?_, fun oldest rest hl h8 => ?_⟩, fun s h r =>
    ⟨fun hn => runCommand_refuse r (cancelJobBody_notFound hn),
      fun ahead j behind hq hj hfirst => ⟨fun d hk => ?_, fun i hk => ⟨fun hs => ?_, fun st hs => ?_⟩⟩⟩⟩
  · rw [addOutcome_eq hl.le, if_pos hl]
  · rw [addOutcome_eq h8.le, if_neg (by omega), hl]; rfl
  · exact runCommand_refuse r (cancelJobBody_dayJob hq hj hfirst hk)
  · exact runCommand_done r (cancelJobBody_queued hq hj hfirst hk hs)
  · exact runCommand_done r (cancelJobBody_running hq hj hfirst hk hs)

end Sys2Proof.Machine

namespace Sys2Proof.Machine

/-! ### The quiet and the dormancy counter (R139, R140) -/

section
variable {x : Settings} {l : Lane}

theorem Lane.countQuiet_of_no_limit (hx : x.quietLimit = 0) : l.countQuiet x = (l, []) := if_pos hx

variable (hx : x.quietLimit ≠ 0)
include hx

theorem Lane.countQuiet_of_quiet (hq : 2 ≤ l.quiet) :
    l.countQuiet x = ({ l with quiet := l.quiet - 1 }, []) := by
  rw [Lane.countQuiet, if_neg hx, if_pos (by omega), if_neg (by omega)]

theorem Lane.countQuiet_of_last_quiet (hq : l.quiet = 1) :
    l.countQuiet x = ({ l with quiet := 0 }, [.missed]) := by
  rw [Lane.countQuiet, if_neg hx, if_pos (by omega), hq]
  rfl

variable (hq : l.quiet = 0)
include hq

theorem Lane.countQuiet_of_no_dormancy (hd : x.dormancyLimit = 0) : l.countQuiet x = (l, []) := by
  rw [Lane.countQuiet, if_neg hx, if_neg (by omega), if_pos hd]

variable (hd : x.dormancyLimit ≠ 0)
include hd

theorem Lane.countQuiet_of_dormancy (hl : 2 ≤ l.dormancy) :
    l.countQuiet x = ({ l with dormancy := l.dormancy - 1 }, []) := by
  rw [Lane.countQuiet, if_neg hx, if_neg (by omega), if_neg hd, if_neg (by omega)]

theorem Lane.countQuiet_of_last_dormancy (hl : l.dormancy ≤ 1) :
    l.countQuiet x =
      ({ l with dormancy := 0, state := .suspended, suspendedFrom := some l.state }, [.dormant]) := by
  rw [Lane.countQuiet, if_neg hx, if_neg (by omega), if_neg hd, if_pos (by omega)]

end

/-! ### APPLY_STEP without a reading (R105, R106, R137) -/

theorem lastApplied_any_iff {l : Lane} {d : Nat} :
    l.lastApplied.any (d ≤ ·) = true ↔ ∃ n, l.lastApplied = some n ∧ d ≤ n := by
  simp [Option.any_eq_true]

/-- APPLY passes a lane by that it does not take, that is SUSPENDED, or that is applied already. -/
theorem applySlot_passed {s : State} {d : Nat} {k : SheetNo} {i : Slot}
    (hp : (s.lane i).state = .vacant ∨ (s.lane i).state = .suspended ∨
      ((s.lane i).state = .enrolled ∧ (s.sheet k).entries.get i = none) ∨
      ∃ n, (s.lane i).lastApplied = some n ∧ d ≤ n) : applySlot s d k i = .ok s := by
  unfold applySlot
  dsimp only
  rcases hp with hv | hs | ⟨hs, he⟩ | hlater
  · rw [if_pos (by simp [takenByApply, hv])]
  · rw [if_pos hs, ite_self, ite_self]
  · rw [if_pos (by simp [takenByApply, hs, he])]
  · rw [if_pos (lastApplied_any_iff.mpr hlater), ite_self]

theorem applySlot_of_taken {s : State} {d : Nat} {k : SheetNo} {i : Slot} {x : Settings}
    (htaken : takenByApply (s.lane i) ((s.sheet k).entries.get i) = true)
    (hlater : ¬ ∃ n, (s.lane i).lastApplied = some n ∧ d ≤ n) (hs : (s.lane i).state ≠ .suspended)
    (hx : s.laneSettings (s.lane i) = some x) :
    applySlot s d k i = applyLots s d i (s.lane i) x ((s.sheet k).entries.get i) := by
  have hany : (s.lane i).lastApplied.any (d ≤ ·) = false :=
    Bool.eq_false_iff.mpr (mt lastApplied_any_iff.mp hlater)
  simp only [applySlot, htaken, hany, hs, hx, Bool.not_true, Bool.false_eq_true, if_false]

section
variable {s : State} {d : Nat} {i : Slot} {l : Lane} {x : Settings}

/-- A day without an entry, or with one of another lot, is a day without a reading (R106). -/
theorem applyLots_missing {e : Option StripEntry}
    (he : e = none ∨ ∃ y, e = some y ∧ l.effective ≠ some y.lot ∧ l.pendingLot ≠ some y.lot) :
    applyLots s d i l x e = applyMissing s d i l x e.isSome := by
  rcases he with rfl | ⟨y, rfl, heff, hpend⟩
  · rfl
  · exact (if_neg heff).trans (if_neg hpend)

theorem applyMissing_enrolled {withdrawn : Bool} (hs : l.state = .enrolled) :
    applyMissing s d i l x withdrawn = .ok (s.setLane i { l with lastApplied := some d }) :=
  if_neg (by simp [hs])

theorem applyMissing_working {withdrawn : Bool} {lot : Nat} {m : Lane} {raised : List AlertKind}
    (hs : l.state = .settling ∨ l.state = .tracking) (hlot : l.effective = some lot)
    (hcount : l.countQuiet x = (m, raised)) : applyMissing s d i l x withdrawn =
      .ok ((s.setLane i { m with
          history := (if 32 ≤ l.history.length then l.history.tail else l.history) ++
            [⟨d, lot, false, .missing withdrawn⟩]
          lastApplied := some d }).raiseAll (raised.map fun kind => ⟨kind, .lane i, d, []⟩)) := by
  simp only [applyMissing, if_pos hs, hlot, hcount, appendHistory_eq]

end

/-- Settles O43: the lanes passed by (`applySlot_passed`), the ENROLLED lane, and the counting of the
others by its cases (`Lane.countQuiet`). -/
theorem applyStepWithoutReading : Obligations.ApplyStepWithoutReading := by
  intro s d i k hd hk next l e later withdrawn
  have hstep := execApplyStep_of_dayAt hd hk
  rw [Stage.next_apply] at hstep
  refine ⟨fun hp => by rw [hstep, applySlot_passed hp]; rfl, fun f x hf ha hlater => ?_⟩
  have hx : s.laneSettings l = some x := laneSettings_eq_some.mpr ⟨f, hf, ha⟩
  refine ⟨fun hs hw => ?_, fun lot hs hlot he => ?_⟩
  · have htaken : takenByApply l e = true := by
      obtain ⟨y, hy, -⟩ := hw
      simp [takenByApply, hs, hy]
    rw [hstep, applySlot_of_taken htaken hlater (by rw [hs]; decide) hx,
      applyLots_missing (.inr hw), applyMissing_enrolled hs]
    rfl
  · intro entry l' outcome
    have htaken : takenByApply l e = true := by
      rcases hs with hs | hs <;> simp [takenByApply, hs]
    have hlive : l.state ≠ .suspended := by rcases hs with hs | hs <;> rw [hs] <;> decide
    have counted : ∀ {m raised}, l.countQuiet x = (m, raised) →
        outcome { m with history := l'.history, lastApplied := some d } raised := by
      intro m raised hcount
      show exec .applyStep s = _
      rw [hstep, applySlot_of_taken htaken hlater hlive hx, applyLots_missing he,
        applyMissing_working hs hlot hcount]
      rfl
    exact ⟨fun h0 => counted (Lane.countQuiet_of_no_limit h0), fun h0 =>
      ⟨fun hq => counted (Lane.countQuiet_of_quiet h0 hq),
        fun hq => counted (Lane.countQuiet_of_last_quiet h0 hq),
        fun hq hn => counted (Lane.countQuiet_of_no_dormancy h0 hq hn),
        fun hq hn hl => counted (Lane.countQuiet_of_dormancy h0 hq hn hl),
        fun hq hn hl => counted (Lane.countQuiet_of_last_dormancy h0 hq hn hl)⟩⟩

end Sys2Proof.Machine

namespace Sys2Proof.Machine

/-! ### The start and the end of a REBUILD job (R111, R128, R131) -/

theorem State.setStage_head {s : State} {j : Job} {rest : List Job} (hq : s.queue = j :: rest)
    (st : Stage) : s.setStage st = { s with queue := { j with state := .running st } :: rest } := by
  unfold State.setStage State.setHeadState
  rw [hq]

theorem Lane.startRebuild_eq (l : Lane) : l.startRebuild = { l with
    chart := .rebuilding, params := List.replicate l.params.length ⟨0, ⟨.zero, 0⟩⟩ } := by
  rw [← List.map_const']
  rfl

theorem execRebuildStart_of_queued {s : State} {j : Job} {rest : List Job} {i : Slot}
    (hr : s.resetAsserted = false) (hq : s.queue = j :: rest) (hs : j.state = .queued)
    (hk : j.kind = .rebuild i) : exec .rebuildStart s =
      .next ((s.setLane i (s.lane i).startRebuild).setStage (.replay 0)) := by
  show execRebuildStart s = _
  simp only [execRebuildStart, State.startable_of_queued hr hq hs, hk]

section
variable {s : State} {i : Slot} {n : Nat}

theorem execRebuildEnd_of_replayed {j : Job} (hstep : s.stepping = some (j, .replay n))
    (hk : j.kind = .rebuild i) (hn : (s.lane i).history.length ≤ n) : exec .rebuildEnd s =
      .next ((s.setLane i { s.lane i with chart := .sound }).finishJob j .done) := by
  show execRebuildEnd s = _
  simp only [execRebuildEnd, hstep, hk, JobKind.lane?, if_neg (not_lt.mpr hn)]

/-! ### REPLAY_STEP (R128, R129) -/

theorem execReplayStep_of_rebuildAt {x : Settings} {entry : HistoryEntry} (hd : s.RebuildAt i n)
    (hx : s.laneSettings (s.lane i) = some x) (hentry : (s.lane i).history[n]? = some entry) :
    exec .replayStep s = .next ((s.setLane i ((s.lane i).replay x.shift entry)).setStage
      (.replay (n + 1))) := by
  obtain ⟨j, hstep, hk⟩ := State.stepping_of_rebuildAt hd
  show execReplayStep s = _
  simp only [execReplayStep, hstep, hk, JobKind.lane?, hentry, replayEntry, hx]
  rfl

end

section
variable {l : Lane} {entry : HistoryEntry}

theorem effectiveSince_any_iff {day : Nat} : l.effectiveSince.any (· ≤ day) = true ↔
    ∃ since, l.effectiveSince = some since ∧ since ≤ day := by
  simp [Option.any_eq_true]

/-- A READING since the effective lot that is not excluded is folded in (R128, R129). -/
theorem Lane.replay_reading {k rerun : Nat} {notes : ReadingNotes} {rs : List ParamResult}
    {v : Verdict} (hb : entry.body = .reading rerun notes rs v)
    (hfrom : ∃ since, l.effectiveSince = some since ∧ since ≤ entry.day)
    (he : entry.excluded = false) : l.replay k entry =
      { l with params := List.zipWith (fun o r => o.update k (r.e.getD r.d)) l.params rs } := by
  have hsel : l.selected entry = some rs := by
    simp only [Lane.selected, hb]
    exact if_pos ⟨effectiveSince_any_iff.mpr hfrom, he⟩
  simp only [Lane.replay, hsel]

/-- Every other entry is passed over (R128). -/
theorem Lane.replay_unselected {k : Nat} (hno : (∃ w, entry.body = .missing w) ∨
    (¬ ∃ since, l.effectiveSince = some since ∧ since ≤ entry.day) ∨ entry.excluded = true) :
    l.replay k entry = l := by
  have hsel : l.selected entry = none := by
    unfold Lane.selected
    split
    · rfl
    · rename_i hb
      refine if_neg ?_
      rintro ⟨hfrom, he⟩
      rcases hno with ⟨w, hw⟩ | hnot | hex
      · rw [hb] at hw; cases hw
      · exact hnot (effectiveSince_any_iff.mp hfrom)
      · rw [he] at hex; cases hex
  simp only [Lane.replay, hsel]

end

theorem ParamState.update_eq (k : Nat) (e : Int) (o : ParamState) :
    o.update k e = ⟨o.s + Int.fdiv (16 * e - o.s) (2 ^ k), stepRun e o.run⟩ := by
  rw [← smooth_eq_fdiv]
  rfl

/-- Settles O45: the start and the end at the head of the queue, the replay by whether the entry is
selected. -/
theorem rebuildJobEffect : Obligations.RebuildJobEffect := by
  refine ⟨fun s j rest i hr hq hs hk => ?_, fun s i n hd => ⟨fun hn => ?_,
    fun f x entry hf ha hentry => ?_⟩⟩
  · rw [execRebuildStart_of_queued hr hq hs hk, State.setStage_head (by exact hq),
      Lane.startRebuild_eq]
  · obtain ⟨j, hstep, hk⟩ := State.stepping_of_rebuildAt hd
    obtain ⟨-, rest, hq, -⟩ := State.stepping_eq_some.mp hstep
    refine ⟨j, rest, hq, ?_⟩
    rw [execRebuildEnd_of_replayed hstep hk hn, State.finishJob_head .done (by exact hq), hk]
    rfl
  · intro from_
    rw [execReplayStep_of_rebuildAt hd (laneSettings_eq_some.mpr ⟨f, hf, ha⟩) hentry]
    refine ⟨fun rerun notes rs v hb hfrom he => ?_, fun hno => ?_⟩
    · rw [Lane.replay_reading hb hfrom he]
      refine ⟨_, rfl, List.length_zipWith .., fun m o q ho hq => ?_⟩
      rw [List.getElem?_zipWith, ho, hq, ← ParamState.update_eq]
    · rw [Lane.replay_unselected hno]

end Sys2Proof.Machine

namespace Sys2Proof.Machine

/-! ### The law of the alert list through every step -/

/-- Settles O57: every raise, removal and acknowledgement keeps the law (`AlertLaw.raise`,
`AlertLaw.filter`, gathered in `AlertLaw.change`), and no other change or move touches the list. -/
theorem alertLawKept : Obligations.AlertLawKept := fun _ _ => AlertLaw.step

end Sys2Proof.Machine

namespace Sys2Proof.Machine

/-! ### RDY, ATN and the pulses (R157, R158, R164) -/

section
variable {s : State} {p : Port}

theorem rdy_iff : s.rdy p = true ↔ (s.port p).responses ≠ [] := by simp [State.rdy]

theorem PortState.qualifies_iff {x : PortState} {k : AlertKind} :
    x.qualifies k = true ↔ x.threshold ≤ k.severity := decide_eq_true_iff

/-- While RESET is released the mode alone says what asserts ATN. -/
theorem atn_iff : s.atn p = true ↔ s.resetAsserted = false ∧
    ((s.port p).mode = .level ∧ (∃ a ∈ s.alerts, (s.port p).qualifies a.kind = true) ∨
      (s.port p).mode = .pulse ∧ (s.port p).pulsing = true) := by
  unfold State.atn
  rw [Bool.and_eq_true, Bool.not_eq_true']
  refine and_congr_right fun _ => ?_
  cases (s.port p).mode <;> simp

theorem execPulseStart_of_owed (hr : s.resetAsserted = false) (hm : (s.port p).mode = .pulse)
    (ho : 0 < (s.port p).owed) (hp : (s.port p).pulsing = false) :
    execPulseStart p s = .next (s.setPort p { s.port p with pulsing := true }) :=
  if_pos ⟨hm, ho, hp, hr⟩

theorem execPulseEnd_of_pulsing (hp : (s.port p).pulsing = true) :
    execPulseEnd p s =
      .next (s.setPort p { s.port p with pulsing := false, owed := (s.port p).owed - 1 }) :=
  if_pos hp

end

/-- Settles O15: the two lines (`rdy_iff`, `atn_iff`), then the two ends of a pulse. -/
theorem linesAndPulses : Obligations.LinesAndPulses := by
  intro s p
  refine ⟨rdy_iff, ?_, execPulseStart_of_owed, execPulseEnd_of_pulsing⟩
  simp only [atn_iff, PortState.qualifies_iff]

end Sys2Proof.Machine

namespace Sys2Proof.Machine

/-! ### ATTENTION SET (R158) -/

theorem attentionModeOf_eq_none {n : Nat} (h : 2 < n) : attentionModeOf n = none := by
  unfold attentionModeOf
  rw [if_neg (by omega), if_neg (by omega), if_neg (by omega)]

theorem attentionModeOf_of_le {n : Nat} (h : n ≤ 2) :
    attentionModeOf n = some (if n = 0 then .off else if n = 1 then .level else .pulse) := by
  interval_cases n <;> rfl

/-- The codes of R170 are read and written alike. -/
theorem code_of_attentionModeOf {n : Nat} {m : AttentionMode} (h : attentionModeOf n = some m) :
    m.code = n := by
  have hle : n ≤ 2 := by
    by_contra hn
    rw [attentionModeOf_eq_none (Nat.lt_of_not_le hn)] at h
    cases h
  interval_cases n <;> (cases h; rfl)

section
variable {h : Held} {s : State}

theorem attentionSetBody_badMode (hm : 2 < byteAt h.frame.payload 0) :
    attentionSetBody h s = .refuse s .badValue := by
  simp only [attentionSetBody, attentionModeOf_eq_none hm]

theorem attentionSetBody_badThreshold
    (ht : byteAt h.frame.payload 1 < 1 ∨ 3 < byteAt h.frame.payload 1) :
    attentionSetBody h s = .refuse s .badValue := by
  unfold attentionSetBody
  split
  · rfl
  · exact if_pos ht

theorem attentionSetBody_ok {m : AttentionMode}
    (hm : attentionModeOf (byteAt h.frame.payload 0) = some m)
    (h1 : 1 ≤ byteAt h.frame.payload 1) (h3 : byteAt h.frame.payload 1 ≤ 3) :
    attentionSetBody h s = .done (s.setPort h.port
        { s.port h.port with
          mode := m, threshold := byteAt h.frame.payload 1, owed := 0, pulsing := false }) .ok
      (u8 (byteAt h.frame.payload 0) ++ u8 (byteAt h.frame.payload 1)) := by
  have ht : ¬ (byteAt h.frame.payload 1 < 1 ∨ 3 < byteAt h.frame.payload 1) := by omega
  simp only [attentionSetBody, hm, if_neg ht, code_of_attentionModeOf hm]

end

/-- Settles O19: a bad mode, a bad threshold, and both accepted. -/
theorem attentionSetOutcome : Obligations.AttentionSetOutcome := by
  intro s h r
  refine ⟨?_, fun hm h1 h3 =>
    runCommand_done r (attentionSetBody_ok (attentionModeOf_of_le hm) h1 h3)⟩
  rintro (hm | ht)
  · exact runCommand_refuse r (attentionSetBody_badMode hm)
  · exact runCommand_refuse r (attentionSetBody_badThreshold ht)

end Sys2Proof.Machine

namespace Sys2Proof.Machine

/-! ### A raise (R148 to R150) -/

theorem PortState.owe_eq (k : AlertKind) (x : PortState) : x.owe k =
    if x.mode = .pulse ∧ x.threshold ≤ k.severity then { x with owed := min 255 (x.owed + 1) }
    else x := by
  unfold PortState.owe
  exact if_congr (and_congr_right fun _ => PortState.qualifies_iff) rfl rfl

section
variable {s : State} {r : Raise}

theorem raise_of_match (h : ∃ a ∈ s.alerts, a.matches r = true) : s.raise r =
    ({ s with alerts := s.alerts.map fun a => if a.matches r then a.update r else a } :
      State).owePulses r.kind :=
  if_pos (List.any_eq_true.mpr h)

variable (hnew : ∀ a ∈ s.alerts, a.matches r = false)
include hnew

theorem not_any_matches : ¬ s.alerts.any (Alert.matches r) = true := by simpa using hnew

theorem raise_of_room (hroom : s.alerts.length < 64) : s.raise r = s.createAlert r s.alerts := by
  rw [State.raise, if_neg (not_any_matches hnew)]
  exact if_pos hroom

variable (hfull : 64 ≤ s.alerts.length)
include hfull

/-- In a full list the first record of lower severity gives way (R150). -/
theorem raise_displaces {older newer : List Alert} {a : Alert}
    (hsplit : s.alerts = older ++ a :: newer) (ha : a.kind.severity < r.kind.severity)
    (holder : ∀ b ∈ older, r.kind.severity ≤ b.kind.severity) :
    s.raise r = s.createAlert r (older ++ newer) := by
  have hlower : s.alerts.any (fun b => b.kind.severity < r.kind.severity) = true :=
    List.any_eq_true.mpr ⟨a, by simp [hsplit], decide_eq_true ha⟩
  have herase : s.alerts.eraseP (fun b => b.kind.severity < r.kind.severity) = older ++ newer := by
    rw [hsplit, List.eraseP_append_right _ fun b hb => by simpa using holder b hb,
      List.eraseP_cons_of_pos (by simpa using ha)]
  rw [State.raise, if_neg (not_any_matches hnew), if_neg (Nat.not_lt.mpr hfull), if_pos hlower,
    herase]

theorem raise_dropped (hall : ∀ a ∈ s.alerts, r.kind.severity ≤ a.kind.severity) :
    s.raise r = { s with overflow := true } := by
  have hlower : ¬ s.alerts.any (fun b => b.kind.severity < r.kind.severity) = true := by
    simpa using hall
  rw [State.raise, if_neg (not_any_matches hnew), if_neg (Nat.not_lt.mpr hfull), if_neg hlower]

end

/-- The serial counter after a creation (R147). -/
theorem createAlert_firstFree {s : State} {room : List Alert} (r : Raise) (hs : AlertLaw s)
    (hsub : room.Sublist s.alerts) :
    FirstFreeAfter ((room ++ [r.record s.nextSerial]).map (·.serial)) s.nextSerial
      (s.createAlert r room).nextSerial := by
  refine advanceId_firstFree ?_ hs.nextInRange.1 hs.nextInRange.2
  have hrecords := hs.records
  have hroom := hsub.length_le
  rw [List.length_map, List.length_append, List.length_singleton]
  omega

/-- Settles O49: an update in place, then the three outcomes of a raise without a record. -/
theorem raiseOutcome : Obligations.RaiseOutcome := by
  intro s r same pulsed new created
  have howe : s.ports.map (PortState.owe r.kind) = pulsed :=
    congrArg s.ports.map (funext (PortState.owe_eq r.kind))
  have creates : ∀ room : List Alert, room.Sublist s.alerts → s.raise r = s.createAlert r room →
      created room := fun room hsub e =>
    ⟨_, fun hs => createAlert_firstFree r hs hsub, by rw [e, ← howe]; rfl⟩
  refine ⟨fun hmatch => ?_, fun hnew => ⟨fun hroom => ?_, fun hfull =>
    ⟨fun older a newer hsplit ha holder => ?_, raise_dropped hnew hfull⟩⟩⟩
  · rw [raise_of_match hmatch, ← howe]
    rfl
  · exact creates _ (List.Sublist.refl _) (raise_of_room hnew hroom)
  · refine creates _ ?_ (raise_displaces hnew hfull hsplit ha holder)
    rw [hsplit]
    exact (List.Sublist.refl _).append (List.sublist_cons_self ..)

end Sys2Proof.Machine

namespace Sys2Proof.Machine

/-! ### LIST ALERTS (R154) -/

theorem Alert.bytes_length (a : Alert) : a.bytes.length = 12 := by
  unfold Alert.bytes
  cases a.subject <;> rfl

/-- 84 records of 12 bytes are what fits beside the 6 bytes of head and tail (R177). -/
theorem alertsPage_eq (rest : List Alert) :
    takeFit (fun a => a.bytes.length) (Config.maxPayload - 6) rest.length rest = rest.take 84 := by
  obtain ⟨more, hsplit, hsum, -, hnext⟩ := takeFit_spec (fun a : Alert => a.bytes.length)
    (Config.maxPayload - 6) rest.length rest
  generalize takeFit (fun a : Alert => a.bytes.length) (Config.maxPayload - 6) rest.length rest = page
    at hsplit hsum hnext ⊢
  have hsize : (page.map fun a => a.bytes.length).sum = 12 * page.length := by
    rw [← List.length_flatMap, flatMap_length_of_const Alert.bytes_length]
  have hmax : Config.maxPayload - 6 = 1010 := rfl
  rw [hsize, hmax] at hsum hnext
  cases more with
  | nil =>
    rw [hsplit, List.append_nil, List.take_of_length_le (by omega)]
  | cons a more =>
    have hcount := congrArg List.length hsplit
    rw [List.length_append, List.length_cons] at hcount
    have hlen : page.length = 84 := by
      have hstop := hnext a more rfl
      rw [a.bytes_length] at hstop
      omega
    rw [hsplit, List.take_left' hlen]

theorem getElem?_length_take {α : Type} (l : List α) (n : Nat) :
    l[(l.take n).length]? = (l.drop n).head? := by
  rw [List.head?_drop, List.length_take]
  rcases Nat.le_total n l.length with hle | hle
  · rw [Nat.min_eq_left hle]
  · rw [Nat.min_eq_right hle, List.getElem?_eq_none le_rfl, List.getElem?_eq_none hle]

theorem alertsPayload_eq (s : State) (rest : List Alert) : alertsPayload s rest =
    u8 s.alerts.length ++ flag s.overflow ++ u8 (rest.take 84).length
      ++ (rest.take 84).flatMap Alert.bytes
      ++ (flag (rest.drop 84).head?.isSome ++ opt16 ((rest.drop 84).head?.map (·.serial))) := by
  rw [← getElem?_length_take, ← List.append_assoc]
  simp only [alertsPayload, alertsPage_eq]

section
variable {h : Held} {s : State}

theorem listAlertsBody_all (h0 : wordAt h.frame.payload 0 = 0) :
    listAlertsBody h s = .done s .ok (alertsPayload s s.alerts) := if_pos h0

variable (h0 : wordAt h.frame.payload 0 ≠ 0)
include h0

theorem listAlertsBody_notFound (hn : ∀ a ∈ s.alerts, a.serial ≠ wordAt h.frame.payload 0) :
    listAlertsBody h s = .refuse s .notFound := by
  have hdrop : s.alerts.dropWhile (fun a => a.serial != wordAt h.frame.payload 0) = [] :=
    List.dropWhile_eq_nil_iff.mpr fun a ha => bne_iff_ne.mpr (hn a ha)
  simp only [listAlertsBody, if_neg h0, hdrop]
  rfl

theorem listAlertsBody_from {before listed : List Alert} (hsplit : s.alerts = before ++ listed)
    (hhead : (listed.head?.map (·.serial)) = some (wordAt h.frame.payload 0))
    (hbefore : ∀ a ∈ before, a.serial ≠ wordAt h.frame.payload 0) :
    listAlertsBody h s = .done s .ok (alertsPayload s listed) := by
  cases listed with
  | nil => cases hhead
  | cons a listed =>
    have ha : a.serial = wordAt h.frame.payload 0 := Option.some.inj hhead
    have hdrop : s.alerts.dropWhile (fun b => b.serial != wordAt h.frame.payload 0) =
        a :: listed := by
      rw [hsplit, List.dropWhile_append_of_pos fun b hb => bne_iff_ne.mpr (hbefore b hb),
        List.dropWhile_cons_of_neg (by simp [ha])]
    simp only [listAlertsBody, if_neg h0, hdrop]
    rfl

end

/-- Settles O50: NOT_FOUND; then the suffix listed, from the whole list or from the serial named, with
its page (`alertsPage_eq`) and the record after it. -/
theorem listAlertsReport : Obligations.ListAlertsReport := by
  intro s h r start record
  have hrecord : Alert.bytes = record := funext fun a => by
    unfold Alert.bytes record
    cases a.subject <;> rfl
  refine ⟨fun h0 hn => runCommand_refuse r (listAlertsBody_notFound h0 hn),
    fun before listed hsplit hstart => ?_⟩
  have hbody : listAlertsBody h s = .done s .ok (alertsPayload s listed) := by
    rcases hstart with ⟨h0, rfl⟩ | ⟨h0, hhead, hbefore⟩
    · rw [listAlertsBody_all h0, hsplit, List.nil_append]
    · exact listAlertsBody_from h0 hsplit hhead hbefore
  have run := runCommand_done r hbody
  rw [alertsPayload_eq, hrecord] at run
  refine run.trans ?_
  cases listed.drop 84 with
  | nil => rfl
  | cons a more => rfl

/-! ### ACK ALERT (R155) -/

theorem setAlerts_eq (s : State) (l : List Alert) : s.setAlerts l =
    { s with alerts := l, overflow := if l = [] then false else s.overflow } := by
  cases l <;> simp [State.setAlerts]

section
variable {h : Held} {s : State}

theorem ackAlertBody_notFound (hn : ∀ a ∈ s.alerts, a.serial ≠ wordAt h.frame.payload 0) :
    ackAlertBody h s = .refuse s .notFound := by
  have hfind : s.alerts.find? (fun a => a.serial == wordAt h.frame.payload 0) = none :=
    List.find?_eq_none.mpr fun a ha => by simp [hn a ha]
  simp only [ackAlertBody, hfind]

variable {a : Alert}
  (ha : (s.alerts.find? fun b => b.serial == wordAt h.frame.payload 0) = some a)
include ha

theorem ackAlertBody_changed (hc : a.raises ≠ byteAt h.frame.payload 2) :
    ackAlertBody h s = .done s .changed (u8 a.raises ++ u16 a.latestDay) := by
  simp only [ackAlertBody, ha, if_pos hc]

theorem ackAlertBody_ok (hc : a.raises = byteAt h.frame.payload 2) : ackAlertBody h s =
    .done (s.setAlerts (s.alerts.filter fun b => b.serial != wordAt h.frame.payload 0)) .ok
      (u16 (wordAt h.frame.payload 0) ++
        u8 (s.alerts.filter fun b => b.serial != wordAt h.frame.payload 0).length) := by
  simp only [ackAlertBody, ha, if_neg (not_not.mpr hc)]
  rfl

end

/-- Settles O51: no record of the serial, a count that differs, and the record removed. -/
theorem ackAlertOutcome : Obligations.AckAlertOutcome := by
  intro s h r
  refine ⟨fun hn => runCommand_refuse r (ackAlertBody_notFound hn), fun a ha =>
    ⟨fun hc => runCommand_done r (ackAlertBody_changed ha hc), fun hc => ?_⟩⟩
  intro left
  rw [← setAlerts_eq]
  exact runCommand_done r (ackAlertBody_ok ha hc)

end Sys2Proof.Machine

namespace Sys2Proof.Machine

/-! ### The executor's checks (R169) -/

theorem Command.mem_all (c : Command) : c ∈ Command.all := by cases c <;> decide

theorem catalogued_iff {code : Byte} :
    catalogued code = true ↔ code = 0x06 ∨ ∃ c : Command, c.code = code := by
  simp [catalogued, linkClearCode, Command.mem_all]

theorem execUnknownCommand_of_uncatalogued {s : State} {h : Held} (hx : s.executor = some h)
    (hc : catalogued h.frame.code = false) :
    execUnknownCommand s = .next (answer h .unknownCommand [] s) := by
  simp only [execUnknownCommand, hx, hc, Bool.false_eq_true, if_false]

/-- Settles O11: the catalogue is LINK CLEAR and the commands of `Command`. -/
theorem unknownCommandAnswered : Obligations.UnknownCommandAnswered := by
  intro s h hx hclear hcode
  refine execUnknownCommand_of_uncatalogued hx (Bool.eq_false_iff.mpr fun hc => ?_)
  rcases catalogued_iff.mp hc with hlc | ⟨c, hcc⟩
  · exact hclear hlc
  · exact hcode c hcc

section
variable {s : State} {h : Held} {c : Command}

theorem executorCheck_notConfigured (hcfg : s.config.configured = false)
    (ha : c.access ≠ .anyPort) : executorCheck s h c = some .notConfigured :=
  if_pos (by simp [hcfg, ha])

theorem executorCheck_role (hcfg : s.config.configured = true)
    (hr : c.access.allows (s.config.roles.get h.port) = false) :
    executorCheck s h c = some .role := by
  rw [executorCheck, if_neg (by simp [hcfg]), if_pos (by simp [hcfg, hr])]

theorem executorCheck_badLength (hcfg : s.config.configured = true ∨ c.access = .anyPort)
    (hr : s.config.configured = true → c.access.allows (s.config.roles.get h.port) = true)
    (hl : h.frame.payload.length ≠ c.length h.frame.payload) :
    executorCheck s h c = some .badLength := by
  rw [executorCheck, if_neg, if_neg, if_pos hl]
  · simpa using hr
  · simpa [or_iff_not_imp_left] using hcfg

end

/-- Every row of the catalogue is run by the executor's one frame. -/
theorem Command.exec_instr (c : Command) : ∃ body, ∀ s, exec c.instr s = runCommand c body s := by
  cases c with
  | identify => exact ⟨identifyBody, fun _ => rfl⟩
  | status => exact ⟨statusBody, fun _ => rfl⟩
  | _ => exact ⟨_, fun _ => rfl⟩

/-- Settles O14: each check of R169 by `executorCheck`, which every command meets first. -/
theorem executorChecksInOrder : Obligations.ExecutorChecksInOrder := by
  intro c s
  obtain ⟨body, hrun⟩ := c.exec_instr
  simp only [hrun]
  exact ⟨fun h hh =>
    ⟨fun hcfg ha => runCommand_of_refused hh (executorCheck_notConfigured hcfg ha),
      fun hcfg hr => runCommand_of_refused hh (executorCheck_role hcfg hr),
      fun hcfg hr hl => runCommand_of_refused hh (executorCheck_badLength hcfg hr hl)⟩,
    runCommand_of_not_held⟩

/-! ### IDENTIFY and STATUS (R172 to R174) -/

/-- Settles O16: IDENTIFY needs no configuration and no role, and its payload is fixed. -/
theorem identifyAnswer : Obligations.IdentifyAnswer := by
  intro s h hx hc hp
  have ready : s.Ready .identify h := ⟨⟨hx, hc⟩, .inr rfl, fun _ => rfl, by rw [hp]; rfl⟩
  exact runCommand_done (body := identifyBody) ready rfl

theorem Table.cells_eq_map_get {α : Type} {n : Nat} (t : Table α n) :
    t.cells = (List.finRange n).map t.get :=
  List.ext_getElem (by simp [t.size]) fun i _ _ => by simp [Table.get]

theorem sheets_flatMap {β : Type} (s : State) (f : Sheet → List β) :
    s.sheets.cells.flatMap f = ([0, 1, 2, 3] : List SheetNo).flatMap fun k => f (s.sheet k) := by
  rw [Table.cells_eq_map_get, List.flatMap_map]
  rfl

/-- Settles O17: the sheets by their numbers, then the running job by its kind. -/
theorem statusReport : Obligations.StatusReport := by
  intro s h r
  refine (runCommand_done (body := statusBody) r rfl).trans ?_
  rw [statusPayload, sheets_flatMap]
  cases s.running with
  | none => simp only [List.append_assoc]; rfl
  | some run =>
    obtain ⟨⟨id, kind, state⟩, stage⟩ := run
    cases kind <;> simp only [List.append_assoc] <;> rfl

end Sys2Proof.Machine

namespace Sys2Proof.Machine

/-! ### The arbiter's four cases (R167) -/

section
variable {s : State}

/-- The granted port while it is eligible and its allowance is not used up. -/
def State.Within (s : State) (g : Port) : Prop :=
  s.eligible g = true ∧ (s.allowance g = 0 ∨ 0 < s.credit g)

theorem within_iff {g : Port} : s.Within g ↔
    (s.eligible g && (s.allowance g == 0 || decide (0 < s.credit g))) = true := by
  simp [State.Within]

theorem nextPorts_of_mem {g q r : Port}
    (h : (g, q, r) ∈ [(Port.a, Port.b, Port.c), (.b, .c, .a), (.c, .a, .b)]) :
    nextPorts g = [q, r] := by
  revert h
  cases g <;> cases q <;> cases r <;> decide

variable (hx : s.executor = none) (hr : s.resetAsserted = false)
include hx hr

theorem arbitrate_within (hw : s.Within s.arbiter.grant) :
    s.arbitrate = s.take s.arbiter.grant := by
  rw [State.arbitrate, if_neg (by simp [hx, hr])]
  exact if_pos (within_iff.mp hw)

theorem arbitrate_not_within (hw : ¬ s.Within s.arbiter.grant) : s.arbitrate =
    ((nextPorts s.arbiter.grant).find? fun p => s.eligible p).elim
      (if s.eligible s.arbiter.grant then (s.reloadCredit s.arbiter.grant).take s.arbiter.grant
        else s)
      fun p => ((s.reloadCredit s.arbiter.grant).setGrant p).take p := by
  rw [State.arbitrate, if_neg (by simp [hx, hr])]
  refine (if_neg (mt within_iff.mpr hw)).trans ?_
  cases (nextPorts s.arbiter.grant).find? fun p => s.eligible p <;> rfl

end

/-! ### A take (R167, R168) -/

/-- The state once the executor holds the frame `f` of a port, whose other frames are `rest`. -/
def State.taken (s : State) (p : Port) (f : Frame) (rest : List Frame) (arbiter : Arbiter) :
    State :=
  { s.setPort p { s.port p with commands := rest } with
    executor := some ⟨p, f⟩
    arbiter := arbiter }

@[simp] theorem State.taken_executor (s : State) (p : Port) (f : Frame) (rest : List Frame)
    (arbiter : Arbiter) : (s.taken p f rest arbiter).executor = some ⟨p, f⟩ := rfl
@[simp] theorem State.taken_arbiter (s : State) (p : Port) (f : Frame) (rest : List Frame)
    (arbiter : Arbiter) : (s.taken p f rest arbiter).arbiter = arbiter := rfl
theorem State.taken_port (s : State) (p : Port) (f : Frame) (rest : List Frame) (arbiter : Arbiter)
    (q : Port) : (s.taken p f rest arbiter).port q =
      if q = p then { s.port p with commands := rest } else s.port q :=
  (s.port_setPort p q _).trans (if_congr eq_comm rfl rfl)

section
variable {s : State} {p : Port} {f : Frame} {rest : List Frame}
  (hf : (s.port p).commands = f :: rest)
include hf

theorem take_eq : s.take p = s.taken p f rest
    { s.arbiter with credits := if s.allowance p = 0 then s.arbiter.credits
        else s.arbiter.credits.set p (s.credit p - 1) } := by
  rw [State.take_of_cons hf]
  split <;> rfl

theorem take_credit (q : Port) : (s.take p).credit q =
    if q = p ∧ s.allowance p ≠ 0 then s.credit p - 1 else s.credit q := by
  rw [take_eq hf, State.credit, State.taken_arbiter]
  by_cases ha : s.allowance p = 0
  · simp [ha, State.credit]
  · simp [ha, PerPort.get_set, State.credit, eq_comm]

end

/-- Settles O12: the grant within its allowance, then the first eligible of the other two ports,
then what a take leaves. -/
theorem arbiterChoosesByR167 : Obligations.ArbiterChoosesByR167 := by
  refine ⟨fun s hx hr => ⟨arbitrate_within hx hr, fun hw q r hqr => ?_⟩, fun s p f rest hf =>
    ⟨by rw [take_eq hf, State.taken_executor], by rw [take_eq hf, State.taken_arbiter],
      take_credit hf, by rw [take_eq hf]; exact s.taken_port p f rest _⟩⟩
  have choice := arbitrate_not_within hx hr hw
  rw [nextPorts_of_mem hqr] at choice
  refine ⟨fun hq => ?_, fun hq hr' => ?_, fun hq hr' hg => ?_, fun hq hr' hg => ?_⟩
  · simp [choice, hq]
  · simp [choice, hq, hr']
  · simp [choice, hq, hr', hg]
  · simp [choice, hq, hr', hg]

/-! ### The executor's answer (R168) -/

/-- Whatever the arbiter decides, it leaves the state alone, or the frame at the head of one command
buffer goes to the executor, with the grant and the credits changed at most (R167). -/
theorem arbitrate_cases (s : State) : s.arbitrate = s ∨ ∃ p f rest arbiter,
    (s.port p).commands = f :: rest ∧ s.arbitrate = s.taken p f rest arbiter := by
  have taken : ∀ q a, s.eligible q = true → ∃ p f rest arbiter,
      (s.port p).commands = f :: rest ∧
        ({ s with arbiter := a } : State).take q = s.taken p f rest arbiter := fun q a hel => by
    obtain ⟨f, rest, hf⟩ := List.exists_cons_of_ne_nil (eligible_iff.mp hel).1
    exact ⟨q, f, rest, _, hf, take_eq (s := { s with arbiter := a }) hf⟩
  by_cases hb : (s.executor.isSome || s.resetAsserted) = true
  · exact .inl (State.arbitrate_of_busy hb)
  obtain ⟨hx, hr⟩ : s.executor = none ∧ s.resetAsserted = false := by simpa using hb
  by_cases hw : s.Within s.arbiter.grant
  · rw [arbitrate_within hx hr hw]
    exact .inr (taken _ s.arbiter hw.1)
  rw [arbitrate_not_within hx hr hw]
  cases hfind : (nextPorts s.arbiter.grant).find? fun p => s.eligible p with
  | some p =>
    exact .inr (taken p ((s.reloadCredit s.arbiter.grant).setGrant p).arbiter
      (List.find?_some hfind))
  | none =>
    rw [Option.elim_none]
    split
    · exact .inr (taken _ (s.reloadCredit s.arbiter.grant).arbiter ‹_›)
    · exact .inl rfl

/-- A port once a response is placed at port `q`. -/
def State.answeredPort (s : State) (q : Port) (r : Response) (p : Port) : PortState :=
  { s.port p with responses := (s.port p).responses ++ if p = q then [r] else [] }

theorem placeResponse_port (s : State) (q : Port) (r : Response) (p : Port) :
    (s.placeResponse q r).port p = s.answeredPort q r p := by
  rw [State.port_placeResponse, State.answeredPort]
  by_cases hp : q = p
  · subst hp; rw [if_pos rfl, if_pos rfl]
  · rw [if_neg hp, if_neg (Ne.symm hp), List.append_nil]

/-- After an answer the executor is free, or holds the frame that left the head of one command
buffer. -/
theorem answer_cases (h : Held) (st : Status) (payload : List Byte) (s : State) :
    let r : Response := ⟨h.frame.code, h.frame.tag, st, payload⟩
    let t := answer h st payload s
    (t.executor = none ∧ ∀ p, t.port p = s.answeredPort h.port r p) ∨
      ∃ n rest, t.executor = some n ∧ (s.port n.port).commands = n.frame :: rest ∧
        ∀ p, t.port p =
          if p = n.port then { s.answeredPort h.port r p with commands := rest }
          else s.answeredPort h.port r p := by
  intro r t
  have hport := placeResponse_port { s with executor := none } h.port r
  rcases arbitrate_cases (({ s with executor := none } : State).placeResponse h.port r) with
    hidle | ⟨p, f, rest, arbiter, hf, htake⟩
  · have ht : t = _ := hidle
    rw [ht]
    exact .inl ⟨rfl, hport⟩
  · have ht : t = _ := htake
    rw [hport] at hf
    rw [ht]
    refine .inr ⟨⟨p, f⟩, rest, rfl, hf, fun q => ?_⟩
    rw [State.taken_port]
    by_cases hq : q = p
    · subst hq
      rw [if_pos rfl, if_pos rfl, hport]; rfl
    · rw [if_neg hq, if_neg hq, hport]; rfl

/-- Settles O13: the response placed at the asking port, then the frame that the arbiter takes, if
any. -/
theorem answerPlacesOneResponse : Obligations.AnswerPlacesOneResponse := by
  intro h st payload s
  rcases answer_cases h st payload s with ⟨hfree, hport⟩ | ⟨n, rest, hn, hcmd, hport⟩
  · refine ⟨answer_frame h st payload s, fun p => ?_, fun _ p => ?_, fun n hn => ?_⟩
    · rw [hport]; exact ⟨rfl, rfl, rfl, rfl, rfl, rfl⟩
    · rw [hport]; rfl
    · rw [hfree] at hn; cases hn
  · refine ⟨answer_frame h st payload s, fun p => ?_, fun hfree => ?_, fun m hm => ?_⟩
    · rw [hport]
      split <;> exact ⟨rfl, rfl, rfl, rfl, rfl, rfl⟩
    · rw [hn] at hfree; cases hfree
    · obtain rfl : n = m := Option.some.inj (hn.symm.trans hm)
      refine ⟨?_, fun p hp => ?_⟩
      · rw [hport, if_pos rfl, hcmd]
      · rw [hport, if_neg hp]; rfl

end Sys2Proof.Machine

namespace Sys2Proof.Machine

/-! ### The bytes of a frame (R161) -/

/-- What the CRC of a frame runs over: header and payload. -/
def frameBody (marker code tag status : Byte) (payload : List Byte) : List Byte :=
  [marker, code, tag, status] ++ u16 payload.length ++ payload

theorem frameBytes_eq (m c t st : Byte) (p : List Byte) :
    frameBytes m c t st p = frameBody m c t st p ++ u16 (crc (frameBody m c t st p)).toNat := rfl

theorem frameBody_length (m c t st : Byte) (p : List Byte) :
    (frameBody m c t st p).length = 6 + p.length := by
  simp [frameBody, u16]; omega

/-- A two-byte field is read back as it was written. -/
theorem wordAt_u16 {i n : Nat} {before after : List Byte} (hi : before.length = i)
    (hn : n ≤ 65535) : wordAt (before ++ u16 n ++ after) i = n := by
  subst hi
  simp [wordAt, byteAt, u16, List.getD_eq_getElem?_getD]
  omega

theorem drop_frameBytes (m c t st : Byte) (p : List Byte) : (frameBytes m c t st p).drop 6 =
    p ++ u16 (crc (frameBody m c t st p)).toNat := rfl

section
variable {m c t st : Byte} {p : List Byte}

theorem wordAt_frameBytes_length (hp : p.length ≤ 1016) :
    wordAt (frameBytes m c t st p) 4 = p.length := by
  have hsplit : frameBytes m c t st p = [m, c, t, st] ++ u16 p.length ++
      (p ++ u16 (crc (frameBody m c t st p)).toNat) := rfl
  rw [hsplit]
  exact wordAt_u16 rfl (by omega)

theorem take_frameBytes : (frameBytes m c t st p).take (6 + p.length) = frameBody m c t st p := by
  rw [frameBytes_eq]
  exact List.take_left' (frameBody_length ..)

theorem wordAt_frameBytes_crc : wordAt (frameBytes m c t st p) (6 + p.length) =
    (crc (frameBody m c t st p)).toNat := by
  rw [frameBytes_eq, ← List.append_nil (_ ++ u16 _)]
  exact wordAt_u16 (frameBody_length ..) (Nat.le_of_lt_succ (BitVec.isLt _))

end

/-- Bytes of the length that they declare, with the CRC of their header and payload, are the frame
of what they carry. -/
theorem eq_frameBytes_of_checks {bytes : List Byte} {l : Nat} (hl : wordAt bytes 4 = l)
    (hlen : bytes.length = 8 + l)
    (hcrc : wordAt bytes (6 + l) = (crc (bytes.take (6 + l))).toNat) :
    bytes = frameBytes (bytes.getD 0 0) (bytes.getD 1 0) (bytes.getD 2 0) (bytes.getD 3 0)
      ((bytes.drop 6).take l) := by
  have hpayload : ((bytes.drop 6).take l).length = l := by simp; omega
  have hheader : bytes.take 6 =
      [bytes.getD 0 0, bytes.getD 1 0, bytes.getD 2 0, bytes.getD 3 0] ++ u16 l := by
    have hsplit : bytes = bytesAt bytes 0 4 ++ bytesAt bytes 4 2 ++ bytes.drop 6 := by
      rw [← bytesAt_eq_drop (n := 2 + l) (by omega), bytesAt_append _ rfl, bytesAt_append _ rfl,
        bytesAt_eq_drop (by omega), List.drop_zero]
    rw [← u16_wordAt, hl] at hsplit
    conv_lhs => rw [hsplit]
    rfl
  have hbody : bytes.take (6 + l) = frameBody (bytes.getD 0 0) (bytes.getD 1 0) (bytes.getD 2 0)
      (bytes.getD 3 0) ((bytes.drop 6).take l) := by
    rw [List.take_add, hheader, frameBody, hpayload]
  have hlast : bytes.drop (6 + l) = u16 (wordAt bytes (6 + l)) := by
    rw [u16_wordAt, bytesAt_eq_drop (by omega)]
  rw [frameBytes_eq, ← hbody, ← hcrc, ← hlast, List.take_append_drop]

/-! ### The checks of an arriving frame (R159, R161) -/

theorem idleTest_iff {bytes : List Byte} {tail : List Bool} :
    (bytes.all (· == 0xFF) && tail.all id) = true ↔
      (∀ b ∈ bytes, b = 0xFF) ∧ ∀ b ∈ tail, b = true := by
  simp

theorem classify_of_ones {bytes : List Byte} {tail : List Bool}
    (h : (∀ b ∈ bytes, b = 0xFF) ∧ ∀ b ∈ tail, b = true) : classify bytes tail = .idle :=
  if_pos (idleTest_iff.mpr h)

/-- Of a period with a 0 in it the first failing check decides; without one the frame is good. -/
theorem classify_of_not_ones {bytes : List Byte} {tail : List Bool}
    (h : ¬ ((∀ b ∈ bytes, b = 0xFF) ∧ ∀ b ∈ tail, b = true)) : classify bytes tail =
      (frameReason bytes tail).elim
        (.good ⟨bytes.getD 1 0, bytes.getD 2 0, (bytes.drop 6).take (wordAt bytes 4)⟩)
        fun r => .bad r (headerEcho bytes 1) (headerEcho bytes 2) := by
  rw [classify, if_neg (mt idleTest_iff.mp h)]
  cases frameReason bytes tail <;> rfl

theorem classify_eq_idle_iff {bytes : List Byte} {tail : List Bool} :
    classify bytes tail = .idle ↔ (∀ b ∈ bytes, b = 0xFF) ∧ ∀ b ∈ tail, b = true := by
  refine ⟨fun hidle => ?_, classify_of_ones⟩
  by_contra h
  rw [classify_of_not_ones h] at hidle
  cases hr : frameReason bytes tail <;> simp [hr] at hidle

theorem headerEcho_eq (bytes : List Byte) (i : Nat) :
    headerEcho bytes i = if 6 ≤ bytes.length then bytes.getD i 0 else 0 := by
  rw [headerEcho, ← ite_not]
  simp only [Nat.not_lt]

theorem byteAt_eq_zero_iff {bytes : List Byte} {i : Nat} :
    byteAt bytes i = 0 ↔ bytes.getD i 0 = 0 :=
  BitVec.toNat_inj (y := 0)

theorem head?_eq_marker_iff {bytes : List Byte} :
    bytes.head? = some 0x5C ↔ bytes.getD 0 0 = 0x5C := by
  cases bytes <;> simp

/-- A frame passes every check of R161 exactly when none of the five conditions holds. -/
theorem frameReason_eq_none {bytes : List Byte} {tail : List Bool} : frameReason bytes tail = none ↔
    tail = [] ∧ bytes.getD 0 0 = 0x5C ∧ wordAt bytes 4 ≤ 1016 ∧ bytes.length = 8 + wordAt bytes 4 ∧
      wordAt bytes (6 + wordAt bytes 4) = (crc (bytes.take (6 + wordAt bytes 4))).toNat ∧
      bytes.getD 3 0 = 0 := by
  rw [← head?_eq_marker_iff]
  constructor
  · intro h
    unfold frameReason at h
    split_ifs at h with htail hmarker hlength hcrc hstatus
    simp only [not_or, Nat.not_lt, ne_eq, not_not] at htail hmarker hlength hcrc hstatus
    obtain ⟨-, hmax, hlen⟩ := hlength
    exact ⟨htail, hmarker, hmax, hlen, hcrc, byteAt_eq_zero_iff.mp hstatus⟩
  · rintro ⟨htail, hmarker, hmax, hlen, hcrc, hstatus⟩
    rw [frameReason, if_neg (not_not.mpr htail), if_neg (not_not.mpr hmarker),
      if_neg (by simp only [Config.maxPayload]; omega), if_neg (not_not.mpr hcrc),
      if_neg (not_not.mpr (byteAt_eq_zero_iff.mpr hstatus))]

/-- The marker has a 0 bit, so a frame is never an idle period. -/
theorem not_ones_of_marker {bytes : List Byte} {tail : List Bool} (h : bytes.getD 0 0 = 0x5C) :
    ¬ ((∀ b ∈ bytes, b = 0xFF) ∧ ∀ b ∈ tail, b = true) := by
  rintro ⟨hones, -⟩
  obtain ⟨rest, rfl⟩ := List.head?_eq_some_iff.mp (head?_eq_marker_iff.mpr h)
  exact absurd (hones _ List.mem_cons_self) (by decide)

theorem classify_eq_good_iff {bytes : List Byte} {tail : List Bool} {f : Frame} :
    classify bytes tail = .good f ↔ frameReason bytes tail = none ∧
      f = ⟨bytes.getD 1 0, bytes.getD 2 0, (bytes.drop 6).take (wordAt bytes 4)⟩ := by
  constructor
  · intro hgood
    by_cases hones : (∀ b ∈ bytes, b = 0xFF) ∧ ∀ b ∈ tail, b = true
    · rw [classify_of_ones hones] at hgood; cases hgood
    · rw [classify_of_not_ones hones] at hgood
      cases hr : frameReason bytes tail with
      | some r => rw [hr] at hgood; cases hgood
      | none => rw [hr] at hgood; cases hgood; exact ⟨rfl, rfl⟩
  · rintro ⟨hr, rfl⟩
    obtain ⟨-, hmarker, -⟩ := frameReason_eq_none.mp hr
    rw [classify_of_not_ones (not_ones_of_marker hmarker), hr, Option.elim_none]

/-- The frame of a payload that fits passes the checks. -/
theorem frameReason_frameBytes {c t : Byte} {p : List Byte} (hp : p.length ≤ 1016) :
    frameReason (frameBytes 0x5C c t 0 p) [] = none := by
  rw [frameReason_eq_none, wordAt_frameBytes_length hp, take_frameBytes, wordAt_frameBytes_crc]
  refine ⟨rfl, rfl, hp, ?_, rfl, rfl⟩
  rw [frameBytes_eq, List.length_append, frameBody_length, u16_length]
  omega

/-- Settles O7: a good frame's bytes are rebuilt from its parts (`eq_frameBytes_of_checks`), and a
built frame is read field by field. -/
theorem frameEncodingRoundTrip : Obligations.FrameEncodingRoundTrip := by
  intro bytes tail f
  rw [classify_eq_good_iff]
  constructor
  · rintro ⟨hr, rfl⟩
    obtain ⟨htail, hmarker, hmax, hlen, hcrc, hstatus⟩ := frameReason_eq_none.mp hr
    have hbytes := eq_frameBytes_of_checks rfl hlen hcrc
    rw [hmarker, hstatus] at hbytes
    exact ⟨htail, (List.length_take_le ..).trans hmax, hbytes⟩
  · rintro ⟨rfl, hp, rfl⟩
    refine ⟨frameReason_frameBytes hp, ?_⟩
    rw [wordAt_frameBytes_length hp, drop_frameBytes, List.take_left' rfl]
    rfl

theorem crc_check_value :
    crc [0x31, 0x32, 0x33, 0x34, 0x35, 0x36, 0x37, 0x38, 0x39] = 0x29B1 := by
  decide +kernel

/-- Settles O8: the idle test, then the five checks of `frameReason` in the statement's terms. -/
theorem frameChecksInOrder : Obligations.FrameChecksInOrder := by
  refine ⟨crc_check_value, fun bytes tail => classify_eq_idle_iff, fun bytes tail hzero => ?_⟩
  intro whole bad l
  have hnot : ¬ ((∀ b ∈ bytes, b = 0xFF) ∧ ∀ b ∈ tail, b = true) := by
    rintro ⟨hb, ht⟩
    rcases hzero with ⟨b, hmem, hne⟩ | ⟨b, hmem, hfalse⟩
    · exact hne (hb b hmem)
    · exact Bool.noConfusion ((ht b hmem).symm.trans hfalse)
  have hbad : (fun r => Arrival.bad r (headerEcho bytes 1) (headerEcho bytes 2)) = bad :=
    funext fun r => by rw [headerEcho_eq, headerEcho_eq]
  rw [classify_of_not_ones hnot, hbad]
  simp only [frameReason, ne_eq, head?_eq_marker_iff, gt_iff_lt, byteAt_eq_zero_iff]
  split_ifs <;> rfl

end Sys2Proof.Machine

namespace Sys2Proof.Machine

/-! ### The events of a select period (R159, R160) -/

theorem State.setPort_setPort (s : State) (p : Port) (x y : PortState) :
    (s.setPort p x).setPort p y = s.setPort p y := by
  cases p <;> rfl

theorem State.setPort_self (s : State) (p : Port) : s.setPort p (s.port p) = s := by
  cases p <;> rfl

section
variable {s : State} {p : Port}

theorem execSelectAssert_of_idle (hr : s.resetAsserted = false) (hp : (s.port p).period = .idle) :
    execSelectAssert p s = .next (s.setPort p
      { s.port p with period := .active (!(s.port p).responses.isEmpty) }) := by
  simp only [execSelectAssert, hp, hr]
  rfl

theorem execResponseSent_of_sending {r : Response} {rest : List Response}
    (hp : (s.port p).period = .active true) (hrs : (s.port p).responses = r :: rest) :
    execResponseSent p s = .next (s.setPort p
      { s.port p with period := .active false, responses := rest }).arbitrate := by
  simp only [execResponseSent, hp, hrs]

/-- A port that sends no response sends 0xFF bytes (R160). -/
theorem xdoByte_of_silent (h : (s.port p).period = .active false) (i : Nat) :
    s.xdoByte p i = 0xFF := by
  simp [State.xdoByte, State.xdo, h]

theorem xdoByte_of_sending {r : Response} {rest : List Response}
    (hp : (s.port p).period = .active true) (hrs : (s.port p).responses = r :: rest) (i : Nat) :
    s.xdoByte p i = r.bytes.getD i 0xFF := by
  simp only [State.xdoByte, State.xdo, hp, hrs]

theorem arrive_of_discarded (hp : (s.port p).period = .discarded) (x : Arrival) :
    s.arrive p x = s.setPort p { s.port p with period := .idle } := by
  simp only [State.arrive, hp]
  rfl

theorem arrive_of_active {b : Bool} (hr : s.resetAsserted = false)
    (hp : (s.port p).period = .active b) (x : Arrival) : s.arrive p x =
      ((s.setPort p { s.port p with period := .idle }).receive p x).arbitrate := by
  simp only [State.arrive, hp, hr]
  rfl

end

/-- Settles O6: the period begun with the oldest response or without one, the response sent, and a
period that ends with no bits. -/
theorem selectPeriodSendsOldestResponse : Obligations.SelectPeriodSendsOldestResponse := by
  intro s p hr
  refine ⟨fun hp => ⟨_, execSelectAssert_of_idle hr hp, rfl, fun i => ?_⟩,
    fun r rest => execResponseSent_of_sending, fun hp => ?_⟩
  · cases hrs : (s.port p).responses with
    | nil => exact xdoByte_of_silent (by rw [State.port_setPort_self]; rfl) i
    | cons r rest =>
      refine xdoByte_of_sending (r := r) (rest := rest) ?_ ?_ i
      · rw [State.port_setPort_self]; rfl
      · rw [State.port_setPort_self]; exact hrs
  · exact congrArg _ (arrive_of_active hr hp _)

/-! ### What a port does with what arrived (R162 to R165) -/

/-- A port with a response placed in a free place, or as it was when none is free; `reserved` places
are the executor's (R164). -/
def PortState.respond (x : PortState) (reserved : Nat) (r : Response) : PortState :=
  if x.responses.length + reserved < 4 then { x with responses := x.responses ++ [r] } else x

section
variable {s : State} {p : Port}

theorem respond_eq (r : Response) : (if s.freePlace p then s.placeResponse p r else s) =
    s.setPort p ((s.port p).respond (s.reservedPlaces p) r) := by
  have hfree : s.freePlace p = true ↔
      (s.port p).responses.length + s.reservedPlaces p < 4 := decide_eq_true_iff
  rw [PortState.respond, if_congr hfree rfl rfl]
  split
  · rfl
  · rw [State.setPort_self]

theorem receive_bad (reason : BadReason) (code tag : Byte) :
    s.receive p (.bad reason code tag) = s.setPort p ((s.port p).respond (s.reservedPlaces p)
      ⟨code, tag, .frameError, [BitVec.ofNat 8 reason.code]⟩) :=
  respond_eq _

theorem receive_good {f : Frame} (hf : f.code ≠ 0x06) : s.receive p (.good f) = s.setPort p
    (if (s.port p).commands.length < 4 then
      { s.port p with commands := (s.port p).commands ++ [f] }
    else (s.port p).respond (s.reservedPlaces p) ⟨f.code, f.tag, .portFull, []⟩) := by
  refine (if_neg hf).trans ?_
  rw [respond_eq, apply_ite (s.setPort p)]

theorem receive_linkClear (tag : Byte) (payload : List Byte) :
    s.receive p (.good ⟨0x06, tag, payload⟩) = s.setPort p
      { s.port p with commands := [], responses := [⟨0x06, tag, .ok, []⟩] } :=
  rfl

end

/-- Settles O9: a discarded period, then an active one by what arrived in it. -/
theorem frameArrivalOutcome : Obligations.FrameArrivalOutcome := by
  refine ⟨fun s p bytes tail tag payload hp => ⟨congrArg _ (arrive_of_discarded hp _),
    congrArg _ (arrive_of_discarded hp _)⟩, fun s p bytes tail b hr hp => ?_⟩
  intro x respond
  have arrives : ∀ {a y}, classify bytes tail = a → (s.setPort p x).receive p a = s.setPort p y →
      exec (.frameArrival p bytes tail) s = .next (s.setPort p y).arbitrate := fun ha hy => by
    rw [← hy, ← arrive_of_active hr hp, ← ha]; rfl
  have hx : (s.setPort p x).port p = x := s.port_setPort_self p x
  refine ⟨fun hb ht => arrives (classify_of_ones ⟨hb, ht⟩) rfl,
    fun reason code tag hc => arrives hc ?_, fun f hc hf => arrives hc ?_⟩
  · rw [receive_bad, hx, State.setPort_setPort]
    rfl
  · rw [receive_good hf, hx, State.setPort_setPort]
    rfl

/-! ### LINK CLEAR (R165) -/

theorem eligible_setPort_ne (s : State) {p q : Port} (x : PortState) (h : q ≠ p) :
    (s.setPort p x).eligible q = s.eligible q := by
  rw [State.eligible, State.freePlace, State.port_setPort_ne s x h.symm]
  rfl

/-- A port whose frames are discarded gives the arbiter nothing to take. -/
theorem arbitrate_setPort_of_no_commands {s : State} {p : Port} {x : PortState}
    (hx : x.commands = []) (hothers : s.executor = none → ∀ q, q ≠ p → s.eligible q = false) :
    (s.setPort p x).arbitrate = s.setPort p x := by
  cases he : s.executor with
  | some h => exact State.arbitrate_of_busy (by simp [he])
  | none =>
    refine State.arbitrate_of_none_eligible fun q => ?_
    by_cases hq : q = p
    · subst hq; simp [State.eligible, hx]
    · rw [eligible_setPort_ne s x hq, hothers he q hq]

/-- Settles O10: the frame is read back as it was built (`frameEncodingRoundTrip`), and the cleared
port is not eligible. -/
theorem linkClearEffect : Obligations.LinkClearEffect := by
  intro s p tag payload b hlen hr hp
  refine ⟨?_, fun hothers => ?_⟩
  · have hgood : classify (frameBytes 0x5C 0x06 tag 0 payload) [] = .good ⟨0x06, tag, payload⟩ :=
      (frameEncodingRoundTrip _ _ ⟨0x06, tag, payload⟩).mpr ⟨rfl, hlen, rfl⟩
    show _ = Host.Outcome.next (s.arrive p (classify _ _))
    rw [hgood]
    rfl
  · show Host.Outcome.next (s.arrive p (.good ⟨0x06, tag, payload⟩)) = _
    rw [arrive_of_active hr hp, receive_linkClear, State.port_setPort_self, State.setPort_setPort,
      arbitrate_setPort_of_no_commands rfl hothers]

end Sys2Proof.Machine

namespace Sys2Proof.Machine

/-! ### CONFIGURE (R180) -/

/-- The roles that the three low bits of a role-set byte give (R180). -/
def RoleSet.ofBits (b : Byte) : RoleSet := ⟨b.getLsbD 0, b.getLsbD 1, b.getLsbD 2⟩

theorem RoleSet.ofByte_toNat (b : Byte) : RoleSet.ofByte b.toNat = RoleSet.ofBits b := by
  simp [RoleSet.ofByte, RoleSet.ofBits, BitVec.getLsbD, Nat.testBit_eq_decide_div_mod_eq]

/-- A role-set byte within the range of R180 is written as it was read. -/
theorem RoleSet.code_ofByte {n : Nat} (h : n ≤ 7) : (RoleSet.ofByte n).code = n := by
  interval_cases n <;> rfl

theorem configureValuesOk_iff {p : List Byte} : configureValuesOk p = true ↔
    byteAt p 0 ≤ 7 ∧ byteAt p 1 ≤ 7 ∧ byteAt p 2 ≤ 7 ∧ byteAt p 3 ≤ 15 ∧ byteAt p 4 ≤ 15 ∧
      byteAt p 5 ≤ 15 ∧ 1 ≤ wordAt p 6 ∧ wordAt p 6 ≤ 65533 := by
  simp only [configureValuesOk, Bool.and_eq_true, decide_eq_true_eq, and_assoc]

/-- The payload byte that carries the role set of a port (R180). -/
def roleByte (p : List Byte) : Port → Byte
  | .a => p.getD 0 0
  | .b => p.getD 1 0
  | .c => p.getD 2 0

theorem configure_roles_get (s : State) (p : List Byte) (q : Port) :
    (s.configure p).config.roles.get q = RoleSet.ofByte (roleByte p q).toNat := by
  cases q <;> rfl

theorem roleByte_le_seven {p : List Byte} (hp : configureValuesOk p = true) (q : Port) :
    (roleByte p q).toNat ≤ 7 := by
  obtain ⟨ha, hb, hc, -⟩ := configureValuesOk_iff.mp hp
  cases q with
  | a => exact ha
  | b => exact hb
  | c => exact hc

/-- The asking port reads its own role-set byte back. -/
theorem u8_code_configure {s : State} {p : List Byte} (hp : configureValuesOk p = true) (q : Port) :
    u8 ((s.configure p).config.roles.get q).code = [roleByte p q] := by
  rw [configure_roles_get, RoleSet.code_ofByte (roleByte_le_seven hp q), u8, BitVec.ofNat_toNat,
    BitVec.setWidth_eq]

/-- The state that CONFIGURE leaves, its role sets read bit by bit. -/
theorem configure_eq (s : State) (p : List Byte) : s.configure p = { s with
    config := ⟨true, ⟨.ofBits (p.getD 0 0), .ofBits (p.getD 1 0), .ofBits (p.getD 2 0)⟩,
      ⟨byteAt p 3, byteAt p 4, byteAt p 5⟩, some (wordAt p 6)⟩
    arbiter := ⟨s.arbiter.grant, ⟨byteAt p 3, byteAt p 4, byteAt p 5⟩⟩
    openDay := some (wordAt p 6)
    sheets := (s.sheets.set 0 ⟨.opened, some (wordAt p 6), Table.fill 128 none⟩).set 1
      ⟨.opened, some (wordAt p 6 + 1), Table.fill 128 none⟩ } := by
  simp only [← RoleSet.ofByte_toNat]
  rfl

section
variable {h : Held} {s : State}

theorem configureBody_onceOnly (hc : s.config.configured = true) :
    configureBody h s = .refuse s .onceOnly := if_pos hc

variable (hc : s.config.configured = false)
include hc

theorem configureBody_badValue (hp : configureValuesOk h.frame.payload = false) :
    configureBody h s = .refuse s .badValue := by
  simp [configureBody, hc, hp]

theorem configureBody_ok (hp : configureValuesOk h.frame.payload = true) :
    configureBody h s = .done (s.configure h.frame.payload) .ok
      (u16 (wordAt h.frame.payload 6) ++ [roleByte h.frame.payload h.port]) := by
  simp [configureBody, hc, hp, u8_code_configure]

end

/-- Settles O18: ONCE_ONLY before the values, the values by `configureValuesOk_iff`, then the state
stored (`configure_eq`). -/
theorem configureOutcome : Obligations.ConfigureOutcome := by
  intro s h r
  refine ⟨fun hc => runCommand_refuse r (configureBody_onceOnly hc), fun hc hout => ?_,
    fun hc hin => ?_⟩
  · have hp : configureValuesOk h.frame.payload = false :=
      Bool.eq_false_iff.mpr (mt configureValuesOk_iff.mp hout)
    exact runCommand_refuse r (configureBody_badValue hc hp)
  · have run := runCommand_done r (configureBody_ok hc (configureValuesOk_iff.mpr hin))
    rw [configure_eq] at run
    exact run

end Sys2Proof.Machine
